-- ==== Sys2Proof/Word.lean ====
section
/-! DEFINITION. The plain words the part is made of: bytes on the bus and in the configuration memory, and times on the
microsecond time base of the capture unit (08, section 8.1). -/

namespace Sys2Proof

/-- One byte of a frame payload or of the configuration block. -/
abbrev Byte := BitVec 8

/-- A time on the part's time base, or a length of time, in microseconds (08, section 8.1). -/
abbrev Micros := Nat

/-- A timer: the moment it was started, or `none` while it is stopped ("stopped or running", every chapter's timer row). -/
abbrev Timer := Option Micros

end Sys2Proof
end

