-- ==== Sys2Proof/Syntax.lean ====
section
/-! DEFINITION. The commands of the part: one constructor of `Instr` per row of spec/opcode_table.json, with the data that
the event of the row brings from outside (pins, frames, converter codes, the time that has passed). -/

namespace Sys2Proof

/-- The two brush channels (02). -/
inductive Chan where
  | c0 | c1
  deriving DecidableEq, Repr

/-- The five pulse inputs of the capture unit (08, section 8.1). -/
inductive Pulse where
  | wheel | engine | brush0 | brush1 | flow
  deriving DecidableEq, Repr

/-- The five proportional outputs (09). -/
inductive Coil where
  | driveF | driveR | brush0 | brush1 | pump
  deriving DecidableEq, Repr

/-- The four fault sources that have a recovery count and a window timer (R136). -/
inductive Counted where
  | link | brush0 | brush1 | spray
  deriving DecidableEq, Repr

/-- The levels of the switched inputs (11, section 11.5) at one moment: `true` is active; for IGNITION and WHEEL_B it is
high/active. -/
structure Pins where
  armUp0   : Bool
  armUp1   : Bool
  armDown0 : Bool
  armDown1 : Bool
  ignition : Bool
  wheelB   : Bool
  deriving DecidableEq, Repr

/-- The moment of an event: how long, in microseconds, after the event before it, and what the switched inputs show then
(log 1, log 6). -/
structure Moment where
  dt   : Micros
  pins : Pins
  deriving DecidableEq, Repr

/-- A frame as it passes on the bus (06, section 6.1; 11, section 11.1). The start bit, always dominant, is not written. `crc` is
the 16 CRC bits, the first on the bus the most significant (R174). -/
structure BusFrame where
  cls      : BitVec 2
  station  : BitVec 4
  length   : Byte
  payload  : List Byte
  crc      : BitVec 16
  endField : BitVec 7
  deriving DecidableEq, Repr

/-- The commands: one constructor per row of spec/opcode_table.json, in the table's order. `m` is the moment of the event. The
block's `crc` is its two CRC bytes in the order in which they are read, the high byte first (R174). -/
inductive Instr where
  | resetAssert (m : Moment)
  | resetRelease (m : Moment) (straps : BitVec 4)
  | statusRequestAnswer (m : Moment) (status : Byte)
  | statusWaitTimeout (m : Moment)
  | markerLengthCheck (m : Moment) (b0 b1 length : Byte)
  | blockReadEnd (m : Moment) (fields : List Byte) (crc : Byte × Byte)
  | driveStep (m : Moment)
  | pedalOnset (m : Moment)
  | pedalRecovery (m : Moment)
  | stopTimingEnd (m : Moment)
  | turnCompletion (m : Moment)
  | blindDetection (m : Moment)
  | brushStep (m : Moment) (first : Chan)
  | contactDetected (m : Moment) (first c : Chan)
  | descendTimeout (m : Moment) (first c : Chan)
  | lossOfContact (m : Moment) (first c : Chan)
  | starvation (m : Moment) (first c : Chan)
  | spinDownEnd (m : Moment) (first c : Chan)
  | raiseTimeout (m : Moment) (first c : Chan)
  | resume (m : Moment) (first c : Chan)
  | trip (m : Moment) (first c : Chan)
  | stall (m : Moment) (first c : Chan)
  | overrunOnset (m : Moment) (first c : Chan)
  | overrunClear (m : Moment) (first c : Chan)
  | overrunStanding (m : Moment) (first c : Chan)
  | brushRecoveryDelayEnd (m : Moment) (first c : Chan)
  | rationCapOnset (m : Moment) (first : Chan)
  | rationCapRelease (m : Moment) (first : Chan)
  | sprayStep (m : Moment)
  | primeTimeEnd (m : Moment)
  | standstillHoldEnd (m : Moment)
  | tankLowEmpty (m : Moment)
  | refill (m : Moment)
  | dryRun (m : Moment)
  | sprayRecoveryDelayEnd (m : Moment)
  | stateFrameReceived (m : Moment) (f : BusFrame)
  | freshExpiry (m : Moment) (station : Nat)
  | staleExpiry (m : Moment) (station : Nat)
  | commandFrameReceived (m : Moment) (f : BusFrame)
  | frameDiscard (m : Moment) (f : BusFrame)
  | periodTimerExpiry (m : Moment)
  | busIdleStart (m : Moment)
  | arbitrationLoss (m : Moment) (bit : Nat)
  | bitError (m : Moment) (bit : Nat)
  | sentToCompletion (m : Moment)
  | listenTimerEnd (m : Moment)
  | clashQuietEnd (m : Moment)
  | receiverWake (m : Moment)
  | wakeWindowEnd (m : Moment)
  | modeCheck (m : Moment)
  | warmupEnd (m : Moment)
  | restTimerEnd (m : Moment)
  | ignitionTimerEnd (m : Moment)
  | mode (m : Moment)
  | direction (m : Moment)
  | limit (m : Moment)
  | brush (m : Moment)
  | spray (m : Moment)
  | clear (m : Moment)
  | wake (m : Moment)
  | windowTimerExpiry (m : Moment) (src : Counted)
  | risingEdge (m : Moment) (input : Pulse)
  | zeroRateTimeout (m : Moment) (input : Pulse)
  | singleConversion (m : Moment) (code : Byte)
  | coarseConversion (m : Moment) (code : Byte)
  | fineConversion (m : Moment) (code : Byte)
  | pwmPeriodStart (m : Moment) (out : Coil)
  | coilOpenDetect (m : Moment) (code : Byte)
  | supplyStart (m : Moment) (code : Byte)
  | supplyRelease (m : Moment) (code : Byte)
  | busIdle (m : Moment) (restarted : Bool) (recessive : Nat)
  | startBitTaken (m : Moment)
  deriving DecidableEq, Repr

end Sys2Proof
end

