-- ==== Sys2Proof/Config.lean ====
section
/-! DEFINITION. What no part's configuration image gives and the spec leaves open: free values, which no proof can see. -/

namespace Sys2Proof

/-- The fallback budget of a station whose configuration image is empty. R61 takes the fallback budget "from the
configuration" and R167 discards every field of a failed one, so the spec gives no value (log 11). Free: it has no body;
its one user clamps it to 0..2000, the range R61 states. -/
opaque Config.unconfiguredFallbackBudget : Nat

end Sys2Proof
end

