-- ==== Sys2Proof/Machine/State.lean ====
section
/-! DEFINITION. The state of the part, block by block, as plain data, and its value after reset. Each structure names the
chapter whose table of kept items it is. -/

namespace Sys2Proof.Machine

/-! ### Names of states, modes and codes -/

/-- The station mode (07, section 7.1); `unset` is "none before configuration" (R124). -/
inductive Mode where
  | unset | limp | warmup | parked | transport | sweep | stowing | parking | shutdown | standby
  deriving DecidableEq, Repr

/-- The drive states (01, section 1.1). -/
inductive DriveState where
  | disabled | yielded | standstill | driving | turning | held | latched
  deriving DecidableEq, Repr

/-- A travel direction: forward, neutral, reverse. -/
inductive Dir where
  | fwd | neutral | rev
  deriving DecidableEq, Repr

/-- The brush channel states (02, section 2.1). -/
inductive BrushState where
  | disabled | stowed | descending | sweeping | raising | waiting | held | fault | latched
  deriving DecidableEq, Repr

/-- The spray states (04, section 4.2). -/
inductive SprayState where
  | disabled | off | priming | spraying | paused | empty | held | fault | latched
  deriving DecidableEq, Repr

/-- The link states (06, section 6.4). -/
inductive LinkState where
  | off | active | listenOnly | silenced | dozing | waking
  deriving DecidableEq, Repr

/-- The bit-level state of reception (06, table of link state). -/
inductive Receiver where
  | hunting | idle | receiving
  deriving DecidableEq, Repr

/-- The freshness of a peer record (05, section 5.1). -/
inductive Freshness where
  | absent | fresh | stale | silent
  deriving DecidableEq, Repr

/-- The fault sources (07, section 7.4). -/
inductive Source where
  | config | link | supply | drive | brush0 | brush1 | spray
  deriving DecidableEq, Repr

/-- The states of a fault record (07, section 7.4). -/
inductive RecordState where
  | active | recovering | latched
  deriving DecidableEq, Repr

/-- The fault codes of all sources (11, section 11.2). -/
inductive FaultCode where
  | strap | noMemory | badMarker | badLength | badCrc | schedule | txErrors | clash | lowSupply | pedal | coilOpen
  | coilShort | wheelSensor | claim | noContact | raiseTimeout | overpressure | stall | sensor | overrun | dryRun
  deriving DecidableEq, Repr

/-- The status of a converted value (08, section 8.5). -/
inductive ConvStatus where
  | valid | settling | outOfRange
  deriving DecidableEq, Repr

/-- The conversions of one scan, in scan order (R148). -/
inductive Slot where
  | pedalA | pedalB | press0Coarse | press0Fine | press1Coarse | press1Fine | tank | supply
  | senseDF | senseDR | senseB0 | senseB1 | sensePump
  deriving DecidableEq, Repr

/-- The supply condition (09, R161). -/
inductive SupplyCondition where
  | normal | low
  deriving DecidableEq, Repr

/-- How far the configuration load has gone (10, R164). -/
inductive LoadState where
  | straps | reading | checking | done
  deriving DecidableEq, Repr

/-- The load outcome (10, R164). -/
inductive LoadOutcome where
  | none | good | failed | illegalStrap
  deriving DecidableEq, Repr

/-! ### The configuration image (11, section 11.4): every field as the block stores it, after clamping in a loaded part -/

/-- The general record of the configuration block. Codes are numbers; `expected` lists the members of the expected set. -/
structure GeneralCfg where
  periodCode     : Nat
  expected       : List Nat
  staleCap       : Nat
  warmup         : Nat
  voltage        : Nat
  fallbackBudget : Nat
  deriving DecidableEq, Repr

/-- The drive record of the configuration block. -/
structure DriveCfg where
  enable         : Nat
  tooth          : Nat
  transportCap   : Nat
  sweepCap       : Nat
  reverseRatio   : Nat
  aUp            : Nat
  aDn            : Nat
  aStop          : Nat
  kp             : Nat
  ki             : Nat
  iMax           : Nat
  uMin           : Nat
  paceFull       : Nat
  creepDuty      : Nat
  aLo            : Nat
  aHi            : Nat
  bLo            : Nat
  bHi            : Nat
  tolerance      : Nat
  deadLo         : Nat
  deadHi         : Nat
  enginePulses   : Nat
  va             : Nat
  etaA           : Nat
  boostThreshold : Nat
  boostHold      : Nat
  wheelTimeout   : Nat
  engineTimeout  : Nat
  deriving DecidableEq, Repr

/-- One brush channel's record of the configuration block. `contactMode` 0, 1, 2 is PRESSURE, SWITCH, TIMED; `limitMode`
0, 1 is TRIP, HOLD. `points` are the schedule points (pace, rpm). -/
structure BrushCfg where
  enable         : Nat
  contactMode    : Nat
  limitMode      : Nat
  vm             : Nat
  etaM           : Nat
  blindRpm       : Nat
  contactLevel   : Nat
  lossLevel      : Nat
  tContact       : Nat
  tLoss          : Nat
  descendTimeout : Nat
  raiseTimeout   : Nat
  spinDown       : Nat
  pLim           : Nat
  tTrip          : Nat
  tHoldMax       : Nat
  valveOffset    : Nat
  valveGain      : Nat
  pulses         : Nat
  span           : Nat
  zeroTimeout    : Nat
  pointCount     : Nat
  points         : List (Nat × Nat)
  deriving DecidableEq, Repr

/-- One nozzle group's entry of the configuration block. `kind` 0, 1, 2 is NONE, LOCAL, PEER. -/
structure GroupCfg where
  enabled : Nat
  width   : Nat
  kind    : Nat
  station : Nat
  channel : Nat
  deriving DecidableEq, Repr

/-- The spray record of the configuration block; `groups` holds the four nozzle groups in order. -/
structure SprayCfg where
  enable         : Nat
  rate           : Nat
  drySweep       : Nat
  dustCap        : Nat
  qMin           : Nat
  qMax           : Nat
  pumpOffset     : Nat
  pumpGain       : Nat
  pulsesPerLitre : Nat
  tankLow        : Nat
  standstillHold : Nat
  primeTime      : Nat
  flowTimeout    : Nat
  groups         : List GroupCfg
  deriving DecidableEq, Repr

/-- One proportional output's record of the configuration block; `period` in 0.1 ms. -/
structure CoilCfg where
  period     : Nat
  openLevel  : Nat
  shortLevel : Nat
  deriving DecidableEq, Repr

/-- The configuration image (10, R164). -/
structure Image where
  general : GeneralCfg
  drive   : DriveCfg
  brush0  : BrushCfg
  brush1  : BrushCfg
  spray   : SprayCfg
  driveF  : CoilCfg
  driveR  : CoilCfg
  valve0  : CoilCfg
  valve1  : CoilCfg
  pump    : CoilCfg
  deriving DecidableEq, Repr

/-! ### The blocks -/

/-- The configuration loader (10). `resetHeld` is the RESET line; `spiSent` are the request bytes sent under the present
chip select; `length` is the accepted length byte. -/
structure Loader where
  resetHeld   : Bool
  state       : LoadState
  outcome     : LoadOutcome
  station     : Nat
  image       : Option Image
  clamped     : Bool
  statusWait  : Timer
  spiSelected : Bool
  spiSent     : List Byte
  length      : Option Nat
  deriving DecidableEq, Repr

/-- The drive channel (01, section 1.1). -/
structure Drive where
  state         : DriveState
  engaged       : Dir
  pedal         : Nat
  pedalFault    : Bool
  ramp          : Nat
  integ         : Int
  prevRaw       : Int
  blind         : Bool
  coilLatch     : Bool
  hold          : Option Dir
  disagreeTimer : Timer
  recoverTimer  : Timer
  stopTimer     : Timer
  turnTimer     : Timer
  blindTimer    : Timer
  boost         : Bool
  boostTimer    : Timer
  deriving DecidableEq, Repr

/-- One brush channel (02, section 2.1). `ceiling = none` is "unlimited". -/
structure Brush where
  state           : BrushState
  starved         : Bool
  overrun         : Bool
  overrunCap      : Nat
  ceiling         : Option Nat
  trim            : Int
  prevDuty        : Int
  lastDuty        : Nat
  code            : Option FaultCode
  contactTimer    : Timer
  descendTimer    : Timer
  lossTimer       : Timer
  starveTimer     : Timer
  spinTimer       : Timer
  raiseTimer      : Timer
  resumeTimer     : Timer
  tripTimer       : Timer
  stallTimer      : Timer
  onsetTimer      : Timer
  clearTimer      : Timer
  standingTimer   : Timer
  recoveryTimer   : Timer
  deriving DecidableEq, Repr

/-- What the ration unit forms for one brush channel (03): scheduled speed n, demand D, grant G, granted speed n_g and the
would-be ratio. -/
structure Share where
  n       : Nat
  demand  : Nat
  grant   : Nat
  granted : Nat
  wouldBe : Nat
  deriving DecidableEq, Repr

/-- The ration unit (03, R56). `demand` is the station demand; it is present in a frame while a brush channel is enabled
(R59). -/
structure Ration where
  share0       : Share
  share1       : Share
  demand       : Nat
  engineBudget : Nat
  budget       : Nat
  total        : Nat
  ratio        : Nat
  rationed     : Bool
  capActive    : Bool
  onsetTimer   : Timer
  releaseTimer : Timer
  deriving DecidableEq, Repr

/-- The spray channel (04, section 4.2). The wanted and open sets list group numbers in rising order. -/
structure Spray where
  state           : SprayState
  wanted          : List Nat
  opened          : List Nat
  target          : Nat
  trim            : Int
  prevDuty        : Int
  lastDuty        : Nat
  level           : Nat
  tankLow         : Bool
  code            : Option FaultCode
  primeTimer      : Timer
  standstillTimer : Timer
  tankLowTimer    : Timer
  refillTimer     : Timer
  dryRunTimer     : Timer
  recoveryTimer   : Timer
  deriving DecidableEq, Repr

/-- A brush report as a frame carries it (11, section 11.2); the state is its code, handed on as received (R114). -/
structure BrushReport where
  channel : Nat
  state   : Nat
  overrun : Bool
  starved : Bool
  deriving DecidableEq, Repr

/-- A spray report as a frame carries it (R91; 11, section 11.2). -/
structure SprayReport where
  state   : Nat
  tankLow : Bool
  opened  : List Nat
  deriving DecidableEq, Repr

/-- A fault entry as a frame carries it (11, section 11.2). -/
structure FaultEntry where
  source : Nat
  state  : Nat
  code   : Nat
  deriving DecidableEq, Repr

/-- The content of a STATE frame (R111; 11, section 11.2). Codes are numbers, as received (R114). -/
structure StateFrame where
  station : Nat
  mode    : Nat
  period  : Nat
  claim   : Bool
  overrun : Bool
  clamped : Bool
  rationed : Bool
  limp    : Bool
  cap     : Nat
  pace    : Option Int
  budget  : Option Nat
  demand  : Option Nat
  brushes : List BrushReport
  spray   : Option SprayReport
  faults  : List FaultEntry
  deriving DecidableEq, Repr

/-- An own STATE frame in the transmit pair: its snapshot, and the discard number held with the overrun flag (R111). -/
structure OwnFrame where
  snap    : StateFrame
  discard : Nat
  deriving DecidableEq, Repr

/-- The fields of a peer record from the cap onward (05, section 5.1). -/
structure PeerFields where
  cap     : Nat
  claim   : Bool
  pace    : Option Int
  budget  : Option Nat
  demand  : Option Nat
  reports : List BrushReport
  deriving DecidableEq, Repr

/-- One place of the peer table (05, section 5.1). `period` is the announced period T in ms; `age` is the age timer;
`fields = none` is a record that holds no fields. -/
structure Peer where
  station  : Nat
  fresh    : Freshness
  expected : Bool
  period   : Option Nat
  age      : Timer
  fields   : Option PeerFields
  deriving DecidableEq, Repr

/-- The link (06). `finishing` marks a frame in flight that a restart found in flight (R116); `clashTimer` is the clash
quiet time, `none` being "long"; `recessive` is the receiver's count while it hunts (R108). -/
structure Link where
  state       : LinkState
  latched     : Bool
  inFlight    : Option OwnFrame
  finishing   : Bool
  pending     : Option OwnFrame
  periodTimer : Timer
  abandons    : Nat
  listenTimer : Timer
  clashTimer  : Timer
  wakeTimer   : Timer
  receiver    : Receiver
  recessive   : Nat
  deriving DecidableEq, Repr

/-- A command kind with its argument as received (11, section 11.3). -/
inductive CmdKind where
  | mode (code : Byte)
  | direction (code : Byte)
  | limit (value : Nat)
  | brush (mask : Byte)
  | spray (onByte rate : Byte)
  | clear
  | wake
  deriving DecidableEq, Repr

/-- An entry of the command queue (07): sender, kind and argument. -/
structure Command where
  sender : Nat
  kind   : CmdKind
  deriving DecidableEq, Repr

/-- A record of the fault list (07, section 7.4). -/
structure Record where
  source : Source
  code   : FaultCode
  state  : RecordState
  deriving DecidableEq, Repr

/-- A source's recovery count and window timer (R136). -/
structure Recovery where
  count  : Nat
  window : Timer
  deriving DecidableEq, Repr

/-- The contribution table (07, section 7.3): one place per contribution, `none` when empty. -/
structure Contributions where
  driveLatched : Option Nat
  overrun0     : Option Nat
  overrun1     : Option Nat
  transport0   : Option Nat
  transport1   : Option Nat
  afterFault0  : Option Nat
  afterFault1  : Option Nat
  ration       : Option Nat
  dust         : Option Nat
  deriving DecidableEq, Repr

/-- The mode controller (07). `silentCount` is the peer table's count as last handed over (R107). -/
structure Controller where
  mode          : Mode
  standbyReturn : Mode
  ignitionTimer : Timer
  warmupTimer   : Timer
  restTimer     : Timer
  queue         : List Command
  overrun       : Bool
  discard       : Nat
  requested     : Dir
  limit         : Nat
  select0       : Bool
  select1       : Bool
  sprayOn       : Bool
  sprayRate     : Nat
  contrib       : Contributions
  ownCap        : Nat
  faults        : List Record
  linkCount     : Recovery
  brush0Count   : Recovery
  brush1Count   : Recovery
  sprayCount    : Recovery
  silentCount   : Nat
  deriving DecidableEq, Repr

/-- One pulse input of the capture unit (08, section 8.1). -/
structure PulseInput where
  reference : Option Micros
  history   : List Nat
  rate      : Nat
  zeroRate  : Bool
  zeroTimer : Timer
  deriving DecidableEq, Repr

/-- The capture unit (08). `reverse` is the held WHEEL direction; the pace is the WHEEL rate with its sign (R145). -/
structure Capture where
  wheel   : PulseInput
  engine  : PulseInput
  brush0  : PulseInput
  brush1  : PulseInput
  flow    : PulseInput
  reverse : Bool
  deriving DecidableEq, Repr

/-- One entry of the converter's result table (08, section 8.5). -/
structure Entry where
  value  : Nat
  status : ConvStatus
  deriving DecidableEq, Repr

/-- The converter (08, section 8.5): its result table, its place in the scan (`none` while the scan is stopped), and the
coarse code held between the two passes on a pressure input. -/
structure Converter where
  pedalA    : Entry
  pedalB    : Entry
  press0    : Entry
  press1    : Entry
  tank      : Entry
  supply    : Entry
  senseDF   : Entry
  senseDR   : Entry
  senseB0   : Entry
  senseB1   : Entry
  sensePump : Entry
  place     : Option Slot
  coarse    : Option Nat
  deriving DecidableEq, Repr

/-- One proportional output (09). `start` is the start of the present PWM period (`none`: no period runs); `running` says
that the output runs in the present period (R158: an output forced off stays inactive for the rest of it). -/
structure CoilOut where
  shadow    : Nat
  duty      : Nat
  shortOff  : Bool
  openTimer : Timer
  openArmed : Bool
  start     : Timer
  running   : Bool
  deriving DecidableEq, Repr

/-- The supply monitor's timers as they stood when STANDBY was entered, for a conversion that fell together with the entry
(R163). -/
structure LateSupply where
  entered      : Micros
  startTimer   : Timer
  releaseTimer : Timer
  deriving DecidableEq, Repr

/-- The output stage (09): the proportional outputs, the owner's level of every switched output, forcing and the supply
monitor. -/
structure Outputs where
  driveF       : CoilOut
  driveR       : CoilOut
  brush0       : CoilOut
  brush1       : CoilOut
  pump         : CoilOut
  lift0        : Bool
  float0       : Bool
  lift1        : Bool
  float1       : Bool
  nozzle1      : Bool
  nozzle2      : Bool
  nozzle3      : Bool
  nozzle4      : Bool
  parkRelease  : Bool
  boost        : Bool
  faultLamp    : Bool
  spare        : Bool
  forcing      : Bool
  supply       : SupplyCondition
  startTimer   : Timer
  releaseTimer : Timer
  late         : Option LateSupply
  deriving DecidableEq, Repr

/-- The part. `now` is the time base, `pins` the switched inputs as the last event found them, `tableOwn` the own station
number the peer table has been handed (R92), `pending` the commands that wait, first in, first out. -/
structure State where
  now      : Micros
  pins     : Pins
  loader   : Loader
  drive    : Drive
  brush0   : Brush
  brush1   : Brush
  ration   : Ration
  spray    : Spray
  tableOwn : Option Nat
  peers    : List Peer
  link     : Link
  ctl      : Controller
  capture  : Capture
  conv     : Converter
  out      : Outputs
  pending  : List Instr
  deriving DecidableEq, Repr

/-- Why the machine could stop with a fault. The spec gives every step of the part an effect, so there is no reason at all:
a closed inductive with no constructor. -/
inductive Fault where
  deriving DecidableEq, Repr

/-- Why a command could be turned away. -/
inductive Refusal where
  /-- The command has no meaning yet; raised by no arm of `exec` in this model (safe). -/
  | notModelled (mnemonic : String)
  deriving DecidableEq, Repr

/-! ### The values after reset -/

/-- The loader while reset is held (R164). -/
def Loader.reset : Loader :=
  { resetHeld := true, state := .straps, outcome := .none, station := 0, image := none, clamped := false,
    statusWait := none, spiSelected := false, spiSent := [], length := none }

/-- The drive channel after reset (R2). -/
def Drive.reset : Drive :=
  { state := .disabled, engaged := .neutral, pedal := 0, pedalFault := false, ramp := 0, integ := 0, prevRaw := 0,
    blind := false, coilLatch := false, hold := none, disagreeTimer := none, recoverTimer := none, stopTimer := none,
    turnTimer := none, blindTimer := none, boost := false, boostTimer := none }

/-- A brush channel after reset (R27). -/
def Brush.reset : Brush :=
  { state := .disabled, starved := false, overrun := false, overrunCap := 0, ceiling := none, trim := 0, prevDuty := 0,
    lastDuty := 0, code := none, contactTimer := none, descendTimer := none, lossTimer := none, starveTimer := none,
    spinTimer := none, raiseTimer := none, resumeTimer := none, tripTimer := none, stallTimer := none,
    onsetTimer := none, clearTimer := none, standingTimer := none, recoveryTimer := none }

/-- A channel's shares while the ration unit has formed none (R56, R69). -/
def Share.zero : Share := { n := 0, demand := 0, grant := 0, granted := 0, wouldBe := 0 }

/-- The ration unit after reset (R56). -/
def Ration.reset : Ration :=
  { share0 := .zero, share1 := .zero, demand := 0, engineBudget := 0, budget := 0, total := 0, ratio := 1000,
    rationed := false, capActive := false, onsetTimer := none, releaseTimer := none }

/-- The spray channel after reset (R71). -/
def Spray.reset : Spray :=
  { state := .disabled, wanted := [], opened := [], target := 0, trim := 0, prevDuty := 0, lastDuty := 0, level := 0,
    tankLow := false, code := none, primeTimer := none, standstillTimer := none, tankLowTimer := none,
    refillTimer := none, dryRunTimer := none, recoveryTimer := none }

/-- A place of the peer table that holds no fields and is not expected (R92). -/
def Peer.blank (n : Nat) : Peer :=
  { station := n, fresh := .absent, expected := false, period := none, age := none, fields := none }

/-- The peer table after reset: the 14 places in station order (05, section 5.1; R92). -/
def peersReset : List Peer := [1, 2, 3, 4, 5, 6, 7, 8, 9, 10, 11, 12, 13, 14].map Peer.blank

/-- The link after reset (R115). -/
def Link.reset : Link :=
  { state := .off, latched := false, inFlight := none, finishing := false, pending := none, periodTimer := none,
    abandons := 0, listenTimer := none, clashTimer := none, wakeTimer := none, receiver := .hunting, recessive := 0 }

/-- An empty contribution table (R124). -/
def Contributions.empty : Contributions :=
  { driveLatched := none, overrun0 := none, overrun1 := none, transport0 := none, transport1 := none,
    afterFault0 := none, afterFault1 := none, ration := none, dust := none }

/-- A source that has posted nothing (R124). -/
def Recovery.zero : Recovery := { count := 0, window := none }

/-- The mode controller after reset (R124). The spray rate has no reset value in the spec: 20, the rate of a station without
a configuration (DESIGN CHOICE, log 10). -/
def Controller.reset : Controller :=
  { mode := .unset, standbyReturn := .warmup, ignitionTimer := none, warmupTimer := none, restTimer := none, queue := [],
    overrun := false, discard := 0, requested := .neutral, limit := 4000, select0 := false, select1 := false,
    sprayOn := false, sprayRate := 20, contrib := .empty, ownCap := 0, faults := [], linkCount := .zero,
    brush0Count := .zero, brush1Count := .zero, sprayCount := .zero, silentCount := 0 }

/-- A pulse input after reset (R140). -/
def PulseInput.reset : PulseInput :=
  { reference := none, history := [], rate := 0, zeroRate := true, zeroTimer := none }

/-- The capture unit after reset (R140). -/
def Capture.reset : Capture :=
  { wheel := .reset, engine := .reset, brush0 := .reset, brush1 := .reset, flow := .reset, reverse := false }

/-- The converter after reset: entries 1 to 6 OUT_OF_RANGE, entries 7 to 11 VALID, all 0 (R148). The scan starts at the
release. -/
def Converter.reset : Converter :=
  let unread : Entry := { value := 0, status := .outOfRange }
  let sense : Entry := { value := 0, status := .valid }
  { pedalA := unread, pedalB := unread, press0 := unread, press1 := unread, tank := unread, supply := unread,
    senseDF := sense, senseDR := sense, senseB0 := sense, senseB1 := sense, sensePump := sense, place := none,
    coarse := none }

/-- A proportional output after reset (R155). -/
def CoilOut.reset : CoilOut :=
  { shadow := 0, duty := 0, shortOff := false, openTimer := none, openArmed := true, start := none, running := false }

/-- The output stage after reset (R155). -/
def Outputs.reset : Outputs :=
  { driveF := .reset, driveR := .reset, brush0 := .reset, brush1 := .reset, pump := .reset, lift0 := false,
    float0 := false, lift1 := false, float1 := false, nozzle1 := false, nozzle2 := false, nozzle3 := false,
    nozzle4 := false, parkRelease := false, boost := false, faultLamp := false, spare := false, forcing := false,
    supply := .normal, startTimer := none, releaseTimer := none, late := none }

/-- The switched inputs before any event has shown their levels: inactive and low (DESIGN CHOICE, log 6). -/
def pinsReset : Pins :=
  { armUp0 := false, armUp1 := false, armDown0 := false, armDown1 := false, ignition := false, wheelB := false }

/-- The part as reset leaves it, reset still held: every block at the reset values of its own chapter (R164), the time base
at 0 (DESIGN CHOICE, log 8), the queue of commands empty. -/
def State.reset : State :=
  { now := 0, pins := pinsReset, loader := .reset, drive := .reset, brush0 := .reset, brush1 := .reset,
    ration := .reset, spray := .reset, tableOwn := none, peers := peersReset, link := .reset, ctl := .reset,
    capture := .reset, conv := .reset, out := .reset, pending := [] }

end Sys2Proof.Machine
end

