-- ==== Sys2Proof/Machine/Ops.lean ====
section
/-! DEFINITION. The named operations every block shares: times and timers, clamps, the configuration image, the named updates
of one block of State, and the writing of outputs. -/

namespace Sys2Proof.Machine

/-! ### Numbers (00, "Arithmetic") -/

/-- Bring a value into lo..hi (00, "Arithmetic"). -/
def clampNat (lo hi v : Nat) : Nat := max lo (min hi v)

/-- Bring a signed value into lo..hi. -/
def clampInt (lo hi v : Int) : Int := max lo (min hi v)

/-- "Trunc": the truncation of a signed quotient toward zero (00, "Arithmetic"). -/
def trunc (a b : Int) : Int := Int.tdiv a b

/-- "Ceil": the smallest integer not below a non-negative quotient (00, "Arithmetic"). -/
def ceilDiv (a b : Nat) : Nat := (a + (b - 1)) / b

/-- The least member of a list of figures, `top` when the list is empty or holds nothing lower. -/
def least (top : Nat) (l : List Nat) : Nat := l.foldl min top

/-! ### Times and timers (00, "Times and timers") -/

/-- A length of time given in milliseconds, on the microsecond time base. -/
def ms (n : Nat) : Micros := n * 1000

/-- A timer has run for at least `d` at the moment `now`. -/
def ranFor (t : Timer) (now d : Micros) : Bool :=
  match t with
  | none => false
  | some b => decide (b + d ≤ now)

/-- The timing of a condition "for t": it runs from the first moment that finds the condition true, and a moment that finds
it false stops it (00, "Times and timers"; R1, R26, R70, R125). -/
def runWhile (c : Bool) (t : Timer) (now : Micros) : Timer :=
  if c then some (t.getD now) else none

/-! ### The configuration image -/

/-- A nozzle group that is not enabled. -/
def GroupCfg.blank : GroupCfg := { enabled := 0, width := 20, kind := 0, station := 1, channel := 0 }

/-- A proportional output's record with nothing wired. -/
def CoilCfg.blank : CoilCfg := { period := 25, openLevel := 0, shortLevel := 0 }

/-- A brush channel's record with the channel not enabled; every field at the least value of its range. -/
def BrushCfg.blank : BrushCfg :=
  { enable := 0, contactMode := 0, limitMode := 0, vm := 50, etaM := 500, blindRpm := 0, contactLevel := 0, lossLevel := 0,
    tContact := 50, tLoss := 200,
    descendTimeout := 1000, raiseTimeout := 1000, spinDown := 0, pLim := 200, tTrip := 50,
    tHoldMax := 1000, valveOffset := 0, valveGain := 10, pulses := 0, span := 1000, zeroTimeout := 100, pointCount := 2,
    points := [] }

/-- What the blocks work to while the image is empty: the LIMP values of R167 and R170 (frame period 20 ms, empty expected
set, creep cap 300, 12 V thresholds, spray rate 20, every channel not enabled); the fallback budget is free (log 11); the
other fields, which only an enabled channel reads, stand at the least value of their range (log 12). -/
def Image.blank : Image :=
  { general :=
      { periodCode := 2, expected := [], staleCap := 300, warmup := 500, voltage := 0,
        fallbackBudget := clampNat 0 2000 Config.unconfiguredFallbackBudget },
    drive :=
      { enable := 0, tooth := 1000, transportCap := 0, sweepCap := 0, reverseRatio := 25, aUp := 1, aDn := 1,
        aStop := 10, kp := 0, ki := 0, iMax := 0, uMin := 0, paceFull := 1000, creepDuty := 0, aLo := 0, aHi := 0,
        bLo := 0, bHi := 0, tolerance := 20, deadLo := 0, deadHi := 800, enginePulses := 1, va := 5, etaA := 500,
        boostThreshold := 700, boostHold := 1000, wheelTimeout := 100, engineTimeout := 100 },
    brush0 := .blank, brush1 := .blank,
    spray :=
      { enable := 0, rate := 20, drySweep := 0, dustCap := 0, qMin := 500, qMax := 2000, pumpOffset := 0,
        pumpGain := 10, pulsesPerLitre := 100, tankLow := 0, standstillHold := 0, primeTime := 500, flowTimeout := 100,
        groups := [.blank, .blank, .blank, .blank] },
    driveF := .blank, driveR := .blank, valve0 := .blank, valve1 := .blank, pump := .blank }

/-- The configuration the blocks work to: the image, or the LIMP values while it is empty. -/
def State.cfg (s : State) : Image := s.loader.image.getD Image.blank

/-- The record of a brush channel in an image. -/
def Image.brush (i : Image) : Chan → BrushCfg
  | .c0 => i.brush0
  | .c1 => i.brush1

/-- The record of a proportional output in an image. -/
def Image.coil (i : Image) : Coil → CoilCfg
  | .driveF => i.driveF
  | .driveR => i.driveR
  | .brush0 => i.valve0
  | .brush1 => i.valve1
  | .pump => i.pump

/-- The creep cap, which is the configured stale cap (R100), 300 without a configuration (R167). -/
def State.creepCap (s : State) : Nat := s.cfg.general.staleCap

/-- The configuration load has finished (R164). -/
def State.loaded (s : State) : Bool := s.loader.state == .done

/-! ### Named updates of one block -/

/-- Replace the loader. -/
def State.setLoader (s : State) (x : Loader) : State := { s with loader := x }
/-- Replace the drive channel. -/
def State.setDrive (s : State) (x : Drive) : State := { s with drive := x }
/-- Replace the ration unit. -/
def State.setRation (s : State) (x : Ration) : State := { s with ration := x }
/-- Replace the peer table's places. -/
def State.setPeers (s : State) (x : List Peer) : State := { s with peers := x }
/-- Replace the link. -/
def State.setLink (s : State) (x : Link) : State := { s with link := x }
/-- Replace the mode controller. -/
def State.setCtl (s : State) (x : Controller) : State := { s with ctl := x }
/-- Replace the capture unit. -/
def State.setCapture (s : State) (x : Capture) : State := { s with capture := x }
/-- Replace the converter. -/
def State.setConv (s : State) (x : Converter) : State := { s with conv := x }
/-- Replace the output stage. -/
def State.setOut (s : State) (x : Outputs) : State := { s with out := x }

/-- Let time pass to the moment of an event and take the levels the switched inputs show then (log 1, log 6). -/
def State.arrive (s : State) (m : Moment) : State := { s with now := s.now + m.dt, pins := m.pins }

/-! ### Proportional outputs and switched outputs -/

/-- One proportional output. -/
def Outputs.coil (o : Outputs) : Coil → CoilOut
  | .driveF => o.driveF
  | .driveR => o.driveR
  | .brush0 => o.brush0
  | .brush1 => o.brush1
  | .pump => o.pump

/-- Replace one proportional output. -/
def Outputs.setCoil (o : Outputs) (c : Coil) (x : CoilOut) : Outputs :=
  match c with
  | .driveF => { o with driveF := x }
  | .driveR => { o with driveR := x }
  | .brush0 => { o with brush0 := x }
  | .brush1 => { o with brush1 := x }
  | .pump => { o with pump := x }

/-- An owner writes its duty to the shadow; the active duty of a running period is not changed (R156). -/
def Outputs.writeShadow (o : Outputs) (c : Coil) (d : Nat) : Outputs :=
  o.setCoil c { o.coil c with shadow := d }

/-- The motor valve of a brush channel. -/
def valveOf : Chan → Coil
  | .c0 => .brush0
  | .c1 => .brush1

/-- Write both drive coil shadows (R10). -/
def State.writeDriveCoils (s : State) (f r : Nat) : State :=
  s.setOut ((s.out.writeShadow .driveF f).writeShadow .driveR r)

/-- Set PARK_RELEASE, taken at once by the output stage (R15, R157). -/
def State.setPark (s : State) (b : Bool) : State := s.setOut { s.out with parkRelease := b }

/-- Set BOOST to the boost state (R24). -/
def State.syncBoost (s : State) : State := s.setOut { s.out with boost := s.drive.boost }

/-! ### Brush channels -/

/-- One brush channel. -/
def State.brush (s : State) : Chan → Brush
  | .c0 => s.brush0
  | .c1 => s.brush1

/-- DESCENDING or SWEEPING: the states in which the motor runs and FLOAT is active (R28). -/
def BrushState.working : BrushState → Bool
  | .descending | .sweeping => true
  | .disabled | .stowed | .raising | .waiting | .held | .fault | .latched => false

/-- LIFT is active in the lift phase of RAISING, which begins when the raise timer starts (R28, R36). -/
def Brush.lifting (b : Brush) : Bool := b.state == .raising && b.raiseTimer.isSome

/-- Set the arm valves of one channel from its state and its motor valve shadow to its last duty (R28, R45). -/
def Outputs.driveArm (o : Outputs) (c : Chan) (b : Brush) : Outputs :=
  match c with
  | .c0 => { o.writeShadow .brush0 b.lastDuty with lift0 := b.lifting, float0 := b.state.working }
  | .c1 => { o.writeShadow .brush1 b.lastDuty with lift1 := b.lifting, float1 := b.state.working }

/-- Replace a brush channel and set its outputs by R28. -/
def State.setBrush (s : State) (c : Chan) (b : Brush) : State :=
  match c with
  | .c0 => { s with brush0 := b, out := s.out.driveArm .c0 b }
  | .c1 => { s with brush1 := b, out := s.out.driveArm .c1 b }

/-- The other brush channel. -/
def otherChan : Chan → Chan
  | .c0 => .c1
  | .c1 => .c0

/-! ### Spray channel -/

/-- Replace the spray channel, write its duty to the PUMP shadow and set NOZZLE1 to NOZZLE4 from its open set (R73, R75). -/
def State.setSpray (s : State) (x : Spray) : State :=
  { s with
    spray := x
    out := { s.out.writeShadow .pump x.lastDuty with
      nozzle1 := x.opened.contains 1, nozzle2 := x.opened.contains 2,
      nozzle3 := x.opened.contains 3, nozzle4 := x.opened.contains 4 } }

/-! ### Shares of the brush channels -/

/-- The ration unit's figures for one brush channel. -/
def Ration.share (r : Ration) : Chan → Share
  | .c0 => r.share0
  | .c1 => r.share1

end Sys2Proof.Machine
end

