-- ==== Sys2Proof/Machine/Operands.lean ====
section
/-! DEFINITION. What the blocks read from one another: the measured rates, the scaled pressures, and the derived views of the
peer table (05, section 5.4). Every view is formed at the moment of the read (R99). -/

namespace Sys2Proof.Machine

/-! ### Rates and converted values -/

/-- The measured pace v: the WHEEL rate with the sign of the held direction (R145). -/
def Capture.pace (c : Capture) : Int := if c.reverse then -(c.wheel.rate : Int) else (c.wheel.rate : Int)

/-- One pulse input of the capture unit. -/
def Capture.input (c : Capture) : Pulse → PulseInput
  | .wheel => c.wheel
  | .engine => c.engine
  | .brush0 => c.brush0
  | .brush1 => c.brush1
  | .flow => c.flow

/-- The speed pickup of a brush channel. -/
def pickupOf : Chan → Pulse
  | .c0 => .brush0
  | .c1 => .brush1

/-- The pressure entry of a brush channel. -/
def Converter.press (c : Converter) : Chan → Entry
  | .c0 => c.press0
  | .c1 => c.press1

/-- The pressure of a brush channel in 0.1 bar: floor(value × span / 4096) (R154). -/
def State.pressure (s : State) (c : Chan) : Nat := (s.conv.press c).value * (s.cfg.brush c).span / 4096

/-- The status of a pressure is the status of its entry (R154). -/
def State.pressureStatus (s : State) (c : Chan) : ConvStatus := (s.conv.press c).status

/-- The arm-up switch of a brush channel. -/
def armUpOf (p : Pins) : Chan → Bool
  | .c0 => p.armUp0
  | .c1 => p.armUp1

/-- The arm-down switch of a brush channel. -/
def armDownOf (p : Pins) : Chan → Bool
  | .c0 => p.armDown0
  | .c1 => p.armDown1

/-! ### The peer table's records -/

/-- The records the views read: every place but the own number's (05, section 5.1). -/
def State.others (s : State) : List Peer := s.peers.filter fun p => s.tableOwn != some p.station

/-- FRESH or STALE: the record's fields are used as last heard. -/
def Freshness.heard : Freshness → Bool
  | .fresh | .stale => true
  | .absent | .silent => false

/-- The record of a station number, if its place is not the own one (05, section 5.1). -/
def State.peer (s : State) (n : Nat) : Option Peer := s.others.find? fun p => p.station == n

/-- The figure a record adds to the effective cap (R100). -/
def Peer.capFigure (stale : Nat) (p : Peer) : Option Nat :=
  match p.fresh with
  | .fresh | .stale => p.fields.map (·.cap)
  | .silent => if p.expected then some stale else none
  | .absent => none

/-- The effective cap: the least of the own cap, the caps heard and, once for every expected SILENT record, the stale cap
(R100). -/
def State.effectiveCap (s : State) : Nat :=
  least s.ctl.ownCap (s.others.filterMap (Peer.capFigure s.cfg.general.staleCap))

/-- The drive states in which the claim flag is set (R23, R101). -/
def DriveState.claims : DriveState → Bool
  | .standstill | .driving | .turning | .held | .latched => true
  | .disabled | .yielded => false

/-- A record that claims the drive: FRESH or STALE with its claim flag set (R101). -/
def Peer.claims (p : Peer) : Bool :=
  p.fresh.heard && (match p.fields with | some f => f.claim | none => false)

/-- The claimants' station numbers: the own one while the drive claims, and every claiming record's (R101). -/
def State.claimants (s : State) : List Nat :=
  (if s.drive.state.claims then [s.loader.station] else []) ++ (s.others.filter Peer.claims).map (·.station)

/-- The drive owner: the lowest-numbered claimant (R101). -/
def State.owner (s : State) : Option Nat := s.claimants.min?

/-- The own station is the drive owner. -/
def State.ownsDrive (s : State) : Bool := s.drive.state.claims && s.owner == some s.loader.station

/-- The pace view (R102): unknown, known or held at a value. -/
inductive PaceView where
  | unknown
  | known (v : Int)
  | held (v : Int)
  deriving DecidableEq, Repr

/-- The pace a heard owner's record gives (R102). -/
def Peer.paceView (p : Peer) : PaceView :=
  match p.fresh, p.fields.bind (·.pace) with
  | .fresh, some v => .known v
  | .stale, some v => .held v
  | _, _ => .unknown

/-- The pace view, formed from the drive owner (R102). -/
def State.paceView (s : State) : PaceView :=
  if s.ownsDrive then (if s.drive.blind then .unknown else .known s.capture.pace)
  else
    match s.owner.bind s.peer with
    | some p => p.paceView
    | none => .unknown

/-- The magnitude of a known or held pace (R102). -/
def PaceView.magnitude : PaceView → Option Nat
  | .unknown => none
  | .known v => some v.natAbs
  | .held v => some v.natAbs

/-- The budget view (R103): a budget known, one held from a STALE record (R96), or the fallback budget. -/
inductive BudgetView where
  | known (b : Nat)
  | held (b : Nat)
  | fallback (b : Nat)
  deriving DecidableEq, Repr

/-- The budget that a heard owner's record gives: a STALE record's is marked held (R96, R103). -/
def Peer.budgetView (p : Peer) (fallback : Nat) : BudgetView :=
  match p.fresh, p.fields.bind (·.budget) with
  | .fresh, some b => .known b
  | .stale, some b => .held b
  | _, _ => .fallback fallback

/-- The budget view, formed from the drive owner, given the engine budget formed at the present ration step (R103, R61). -/
def State.budgetView (s : State) (engineBudget : Nat) : BudgetView :=
  if s.ownsDrive then .known engineBudget
  else
    match s.owner.bind s.peer with
    | some p => p.budgetView s.cfg.general.fallbackBudget
    | none => .fallback s.cfg.general.fallbackBudget

/-- The budget of a view: a held one counts at its last value (R61, R103). -/
def BudgetView.value : BudgetView → Nat
  | .known b => b
  | .held b => b
  | .fallback b => b

/-- What a record adds to the sum of peer demands (R105). -/
def Peer.demandFigure (p : Peer) : Nat :=
  match p.fresh with
  | .absent => 0
  | .fresh | .stale | .silent => (p.fields.bind (·.demand)).getD 0

/-- The sum of peer demands (R105). -/
def State.peerDemands (s : State) : Nat := (s.others.map Peer.demandFigure).sum

/-- The peer brush report of a station's channel: the first that names the channel, while the record is FRESH or STALE
(R94, R106). -/
def State.peerBrush (s : State) (station channel : Nat) : Option BrushReport :=
  (s.peer station).bind fun p =>
    if p.fresh.heard then p.fields.bind (fun f => f.reports.find? fun r => r.channel == channel) else none

/-- The count of expected records that are SILENT (R107). -/
def State.silentExpected (s : State) : Nat :=
  (s.others.filter fun p => p.expected && p.fresh == .silent).length

/-- A heard claimant with a lower station number than the own (R20, R104). -/
def State.lowerClaimant (s : State) : Bool :=
  s.others.any fun p => p.claims && decide (p.station < s.loader.station)

/-- A brush channel is enabled: not DISABLED. -/
def State.brushEnabled (s : State) (c : Chan) : Bool := (s.brush c).state != .disabled

/-- At least one brush channel of the station is enabled. -/
def State.anyBrush (s : State) : Bool := s.brushEnabled .c0 || s.brushEnabled .c1

/-! ### What the mode controller gives -/

/-- The mode permits travel: TRANSPORT, SWEEP or STOWING (R1). -/
def Mode.permitsTravel : Mode → Bool
  | .transport | .sweep | .stowing => true
  | .unset | .limp | .warmup | .parked | .parking | .shutdown | .standby => false

/-- The mode cap of the present mode (07, section 7.1; R6; R124 for "none"). -/
def State.modeCap (s : State) : Nat :=
  match s.ctl.mode with
  | .limp => 300
  | .transport => s.cfg.drive.transportCap
  | .sweep | .stowing => s.cfg.drive.sweepCap
  | .unset | .warmup | .parked | .parking | .shutdown | .standby => 0

/-- A brush channel is in the brush selection (R26). -/
def Controller.selected (x : Controller) : Chan → Bool
  | .c0 => x.select0
  | .c1 => x.select1

/-- A brush channel is called: selected, and the mode is SWEEP (R26). -/
def State.brushCalled (s : State) (c : Chan) : Bool := s.ctl.selected c && s.ctl.mode == .sweep

/-- The spray channel is called: the mode is SWEEP and the spray setting is on (R70). -/
def State.sprayCalled (s : State) : Bool := s.ctl.mode == .sweep && s.ctl.sprayOn

/-- A brush channel that lets the brushes count as finished (R128). A DISABLED one is not enabled. -/
def BrushState.finished : BrushState → Bool
  | .disabled | .stowed | .waiting | .fault | .latched => true
  | .descending | .sweeping | .raising | .held => false

/-- The brushes are finished (R128). -/
def State.brushesFinished (s : State) : Bool := s.brush0.state.finished && s.brush1.state.finished

/-- The machine is at rest: the pace view is unknown, or of magnitude 30 or less (R128). -/
def State.atRest (s : State) : Bool :=
  match s.paceView.magnitude with
  | none => true
  | some v => decide (v ≤ 30)

/-- A SUPPLY condition stands. -/
def State.supplyLow (s : State) : Bool := s.out.supply == .low

end Sys2Proof.Machine
end

