-- ==== Sys2Proof/Machine/FaultList.lean ====
section
/-! DEFINITION. The fault list and the common latching rule (07, section 7.4; R135 to R138). -/

namespace Sys2Proof.Machine

/-- The record of a source, if it has one. -/
def Controller.record (x : Controller) (src : Source) : Option Record := x.faults.find? fun r => r.source == src

/-- The state of a source's record. -/
def Controller.recordState (x : Controller) (src : Source) : Option RecordState := (x.record src).map (·.state)

/-- Give a source's record a code and a state: at its place if it stands in the list, at the tail if not (R135). -/
def Controller.putRecord (x : Controller) (src : Source) (code : FaultCode) (st : RecordState) : Controller :=
  let new : Record := { source := src, code := code, state := st }
  if x.faults.any (fun r => r.source == src) then
    { x with faults := x.faults.map fun r => if r.source == src then new else r }
  else { x with faults := x.faults ++ [new] }

/-- Remove a source's record (R135). -/
def Controller.dropRecord (x : Controller) (src : Source) : Controller :=
  { x with faults := x.faults.filter fun r => r.source != src }

/-- A source's request to make its ACTIVE record RECOVERING, at its place (R136). -/
def Controller.makeRecovering (x : Controller) (src : Source) : Controller :=
  { x with faults := x.faults.map fun r =>
      if r.source == src && r.state == .active then { r with state := .recovering } else r }

/-- A source's request to remove its RECOVERING record; the count is kept (R136). -/
def Controller.removeRecovering (x : Controller) (src : Source) : Controller :=
  { x with faults := x.faults.filter fun r => !(r.source == src && r.state == .recovering) }

/-- The fault source that a counted source is (R136). -/
def sourceOf : Counted → Source
  | .link => .link
  | .brush0 => .brush0
  | .brush1 => .brush1
  | .spray => .spray

/-- The counted source that a brush channel is (02, section 2.8). -/
def countedOf : Chan → Counted
  | .c0 => .brush0
  | .c1 => .brush1

/-- A source's recovery count and window timer (R136). -/
def Controller.recovery (x : Controller) : Counted → Recovery
  | .link => x.linkCount
  | .brush0 => x.brush0Count
  | .brush1 => x.brush1Count
  | .spray => x.sprayCount

/-- Replace a source's recovery count and window timer. -/
def Controller.setRecovery (x : Controller) (k : Counted) (v : Recovery) : Controller :=
  match k with
  | .link => { x with linkCount := v }
  | .brush0 => { x with brush0Count := v }
  | .brush1 => { x with brush1Count := v }
  | .spray => { x with sprayCount := v }

/-- Set a source's recovery count to 0. -/
def Controller.zeroCount (x : Controller) (k : Counted) : Controller :=
  x.setRecovery k { x.recovery k with count := 0 }

/-- The four counted sources. -/
def allCounted : List Counted := [.link, .brush0, .brush1, .spray]

/-- The common latching rule (R135), with the restart of the source's window timer (R136): the mode controller after the
posting, and the state in which it left the record, which the source is told at once. -/
def Controller.post (x : Controller) (now : Micros) (k : Counted) (code : FaultCode) : Controller × RecordState :=
  let v := x.recovery k
  let counted (c : Nat) : Controller := x.setRecovery k { count := c, window := some now }
  match x.recordState (sourceOf k) with
  | some .active => ((counted v.count).putRecord (sourceOf k) code .active, .active)
  | some .latched => ((counted v.count).putRecord (sourceOf k) code .latched, .latched)
  | none | some .recovering =>
    if 3 ≤ v.count then ((counted v.count).putRecord (sourceOf k) code .latched, .latched)
    else ((counted (v.count + 1)).putRecord (sourceOf k) code .active, .active)

/-- What the mode controller does to the fault list and the counts at STANDBY entry (R138). -/
def Controller.standbyFaults (x : Controller) : Controller :=
  let kept := { x with faults := x.faults.filter fun r => r.state == .latched }
  allCounted.foldl (fun y k => if (y.record (sourceOf k)).isNone then y.zeroCount k else y) kept

end Sys2Proof.Machine
end

