-- ==== Sys2Proof/Machine/Flags.lean ====
section
/-! DEFINITION. The figures and flags that follow from the rest of State and are set at each change of what they follow: the
own cap, the contributions that stand as long as their state does, the fault lamp, forcing, and the count of silent expected
peers. -/

namespace Sys2Proof.Machine

/-- The dust cap contribution stands: EMPTY or LATCHED, and dry sweeping not permitted (R82). -/
def State.dustStands (s : State) : Bool :=
  (s.spray.state == .empty || s.spray.state == .latched) && s.cfg.spray.drySweep == 0

/-- The contributions whose condition is a state of the poster, posted and withdrawn with it: the LATCHED drive (R23), the
overrun caps (R43, R44, R47) and the dust cap (R82). The others are posted at the steps. -/
def State.contributions (s : State) : Contributions :=
  { s.ctl.contrib with
    driveLatched := if s.drive.state == .latched then some 0 else none
    overrun0 := if s.brush0.overrun then some s.brush0.overrunCap else none
    overrun1 := if s.brush1.overrun then some s.brush1.overrunCap else none
    dust := if s.dustStands then some s.cfg.spray.dustCap else none }

/-- The filled places of the contribution table (R134). -/
def Contributions.values (c : Contributions) : List Nat :=
  [c.driveLatched, c.overrun0, c.overrun1, c.transport0, c.transport1, c.afterFault0, c.afterFault1, c.ration,
    c.dust].filterMap id

/-- The own cap: the least of the mode cap, the operator limit, the filled places, and 0 while a SUPPLY record stands
(R134). -/
def State.composeCap (s : State) : Nat :=
  if (s.ctl.record .supply).isSome then 0
  else least (min s.modeCap s.ctl.limit) s.ctl.contrib.values

/-- FAULT_LAMP (R139). -/
def State.lampLevel (s : State) : Bool :=
  s.ctl.mode != .standby && (!s.ctl.faults.isEmpty || decide (0 < s.silentExpected))

/-- Forcing is on in STANDBY, in WARMUP and during a SUPPLY condition (R158). -/
def State.forcingOn (s : State) : Bool :=
  s.ctl.mode == .standby || s.ctl.mode == .warmup || s.supplyLow

/-- A proportional output under forcing: inactive at once, its open timer stopped (R158, R160). -/
def CoilOut.forced (x : CoilOut) (f : Bool) : CoilOut :=
  if f then { x with running := false, openTimer := none } else x

/-- Set every proportional output by forcing (R158). -/
def Outputs.force (o : Outputs) (f : Bool) : Outputs :=
  { o with
    forcing := f, driveF := o.driveF.forced f, driveR := o.driveR.forced f, brush0 := o.brush0.forced f,
    brush1 := o.brush1.forced f, pump := o.pump.forced f }

/-- Post and withdraw the standing contributions. -/
def State.syncContributions (s : State) : State := s.setCtl { s.ctl with contrib := s.contributions }

/-- Recompute the own cap (R134) and hand over the count of silent expected peers (R107). -/
def State.syncCap (s : State) : State :=
  s.setCtl { s.ctl with ownCap := s.composeCap, silentCount := s.silentExpected }

/-- Set FAULT_LAMP (R139) and forcing (R158). -/
def State.syncOutputs (s : State) : State := s.setOut { s.out.force s.forcingOn with faultLamp := s.lampLevel }

/-- Everything that follows at each change: the standing contributions, the own cap and silent count, the lamp and
forcing. -/
def State.settle (s : State) : State := s.syncContributions.syncCap.syncOutputs

/-! ### The levels on the lines -/

/-- A proportional output is active at the time `now`: not forced off, not switched off for a short, running, and, at a duty
below 1000, within the first part of its period that its duty gives. At a duty of 1000 it is active until its next period start,
at which the next duty decides (R156, R158, R159). -/
def State.coilActive (s : State) (c : Coil) (now : Micros) : Bool :=
  let x := s.out.coil c
  !s.out.forcing && !x.shortOff && x.running &&
    (match x.start with
     | none => false
      | some b => decide (1000 ≤ x.duty) || decide ((now - b) * 1000 < x.duty * ((s.cfg.coil c).period * 100)))

/-- A switched actuator output shows its owner's level unless forcing holds it inactive (R157, R158). -/
def State.switchedActive (s : State) (level : Bool) : Bool := level && !s.out.forcing

end Sys2Proof.Machine
end

