-- ==== Sys2Proof/Machine/Formats.lean ====
section
/-! DEFINITION. The frame formats (11, sections 11.1 to 11.4): code tables, the CRC-16, the STATE payload's encoding and
decoding, the COMMAND payload's decoding, and the checks of a received frame (R112). -/

namespace Sys2Proof.Machine

/-! ### Code tables (11, section 11.2) -/

/-- Mode codes; "none" is never published, since the link is OFF then. -/
def Mode.code : Mode → Nat
  | .limp => 0 | .warmup => 1 | .parked => 2 | .transport => 3 | .sweep => 4 | .stowing => 5 | .parking => 6
  | .shutdown => 7 | .standby => 8 | .unset => 15

/-- Brush state codes; a DISABLED channel has no report. -/
def BrushState.code : BrushState → Nat
  | .stowed => 0 | .descending => 1 | .sweeping => 2 | .raising => 3 | .waiting => 4 | .held => 5 | .fault => 6
  | .latched => 7 | .disabled => 15

/-- Spray state codes; a DISABLED channel has no report. -/
def SprayState.code : SprayState → Nat
  | .off => 0 | .priming => 1 | .spraying => 2 | .paused => 3 | .empty => 4 | .held => 5 | .fault => 6 | .latched => 7
  | .disabled => 0

/-- Fault source codes. -/
def Source.code : Source → Nat
  | .config => 0 | .link => 1 | .supply => 2 | .drive => 3 | .brush0 => 4 | .brush1 => 5 | .spray => 6

/-- Record state codes. -/
def RecordState.code : RecordState → Nat
  | .active => 0 | .recovering => 1 | .latched => 2

/-- Fault codes. -/
def FaultCode.code : FaultCode → Nat
  | .strap => 1 | .noMemory => 2 | .badMarker => 3 | .badLength => 4 | .badCrc => 5 | .schedule => 6 | .txErrors => 7
  | .clash => 8 | .lowSupply => 9 | .pedal => 10 | .coilOpen => 11 | .coilShort => 12 | .wheelSensor => 13 | .claim => 14
  | .noContact => 15 | .raiseTimeout => 16 | .overpressure => 17 | .stall => 18 | .sensor => 19 | .overrun => 20
  | .dryRun => 21

/-! ### Bits and bytes -/

/-- A field of a byte or word: the `width` bits from bit `low` up. -/
def field (n low width : Nat) : Nat := n / 2 ^ low % 2 ^ width

/-- One bit of a byte or word. -/
def bitOf (n i : Nat) : Bool := n / 2 ^ i % 2 == 1

/-- A flag as a bit: 1 when set (R171). -/
def flag (b : Bool) : Nat := if b then 1 else 0

/-- A byte of a payload. -/
def byte (n : Nat) : Byte := BitVec.ofNat 8 n

/-- A value of two bytes, high byte first (11). -/
def word (n : Nat) : List Byte := [byte (n / 256), byte (n % 256)]

/-- The number that a high and a low byte carry. -/
def ofWord (h l : Byte) : Nat := h.toNat * 256 + l.toNat

/-! ### CRC-16 (R174) -/

/-- One bit into the CRC register: generator x^16 + x^15 + x^2 + 1, most significant bit first. -/
def crcBit (r : BitVec 16) (b : Bool) : BitVec 16 :=
  let shifted := r <<< 1
  if r.msb != b then shifted ^^^ 0x8005#16 else shifted

/-- The low `width` bits of a number, most significant first, as they go out on the bus. -/
def bitsOf : Nat → Nat → List Bool
  | 0, _ => []
  | w + 1, n => bitOf n w :: bitsOf w n

/-- The CRC-16 of a run of bits; the register starts at all ones and the result is not inverted (R174). -/
def crc16 (bits : List Bool) : BitVec 16 := bits.foldl crcBit 0xFFFF#16

/-- The bits the CRC of a frame covers: arbitration field, length byte and payload, in the order sent (R174). -/
def coveredBits (f : BusFrame) : List Bool :=
  bitsOf 2 f.cls.toNat ++ bitsOf 4 f.station.toNat ++ bitsOf 8 f.length.toNat ++
    f.payload.flatMap fun b => bitsOf 8 b.toNat

/-- The bits of a frame in the order in which they are sent, `true` recessive: the start bit, the bits the CRC covers, the 16
CRC bits, most significant first, and the end field (06, section 6.1; R174). -/
def sentBits (f : BusFrame) : List Bool :=
  false :: (coveredBits f ++ bitsOf 16 f.crc.toNat ++ bitsOf 7 f.endField.toNat)

/-- The frame's CRC matches: the CRC computed over the same bits, and the 16 bits received (R112, R174). -/
def crcMatches (f : BusFrame) : Bool := crc16 (coveredBits f) == f.crc

/-! ### The STATE payload (R171, R172) -/

/-- The two's complement of a signed value in 16 bits (11, section 11.2). -/
def wordOfInt (v : Int) : Nat := (v % 65536).toNat

/-- The signed value that 16 bits carry in two's complement. -/
def intOfWord (n : Nat) : Int := if n < 32768 then (n : Int) else (n : Int) - 65536

/-- An optional value of two bytes. -/
def optWord (v : Option Nat) : List Byte :=
  match v with
  | none => []
  | some n => word n

/-- A brush report as one byte. -/
def BrushReport.encode (r : BrushReport) : Byte :=
  byte (r.channel * 64 + r.state * 4 + flag r.overrun * 2 + flag r.starved)

/-- A brush report from one byte. -/
def decodeBrush (b : Byte) : BrushReport :=
  { channel := field b.toNat 6 2, state := field b.toNat 2 4, overrun := bitOf b.toNat 1, starved := bitOf b.toNat 0 }

/-- A set of group numbers as four bits, bit k−1 for group k. -/
def groupBits (l : List Nat) : Nat :=
  flag (l.contains 1) + flag (l.contains 2) * 2 + flag (l.contains 3) * 4 + flag (l.contains 4) * 8

/-- The set of group numbers that four bits carry. -/
def groupsOf (n : Nat) : List Nat := [1, 2, 3, 4].filter fun k => bitOf n (k - 1)

/-- A spray report as one byte. -/
def SprayReport.encode (r : SprayReport) : Byte := byte (r.state * 32 + flag r.tankLow * 16 + groupBits r.opened)

/-- A spray report from one byte. -/
def decodeSpray (b : Byte) : SprayReport :=
  { state := field b.toNat 5 3, tankLow := bitOf b.toNat 4, opened := groupsOf (field b.toNat 0 4) }

/-- A fault entry as two bytes. -/
def FaultEntry.encode (e : FaultEntry) : List Byte := [byte (e.source * 32 + e.state * 8), byte e.code]

/-- Fault entries from pairs of bytes. -/
def decodeFaults : List Byte → List FaultEntry
  | a :: b :: rest => { source := field a.toNat 5 3, state := field a.toNat 3 2, code := b.toNat } :: decodeFaults rest
  | _ => []

/-- The five bytes every STATE payload begins with. -/
def StateFrame.head (f : StateFrame) : List Byte :=
  [byte (f.mode * 16 + f.period),
   byte (flag f.claim * 128 + flag f.overrun * 64 + flag f.clamped * 32 + flag f.rationed * 16 + flag f.limp * 8),
   byte (f.cap / 256), byte (f.cap % 256),
   byte (flag f.pace.isSome * 128 + flag f.budget.isSome * 64 + flag f.demand.isSome * 32 + flag f.spray.isSome * 16 +
     f.brushes.length)]

/-- The STATE payload of a snapshot: the present parts and no others, in table order (R171). -/
def StateFrame.encode (f : StateFrame) : List Byte :=
  f.head ++ optWord (f.pace.map wordOfInt) ++ optWord f.budget ++ optWord f.demand ++ f.brushes.map BrushReport.encode ++
    (f.spray.map SprayReport.encode).toList ++ [byte f.faults.length] ++ f.faults.flatMap FaultEntry.encode

/-- The frame on the bus that carries a snapshot (R171, R174). -/
def StateFrame.onBus (f : StateFrame) : BusFrame :=
  let p := f.encode
  let bare : BusFrame :=
    { cls := 1#2, station := BitVec.ofNat 4 f.station, length := byte p.length, payload := p, crc := 0#16,
      endField := 127#7 }
  { bare with crc := crc16 (coveredBits bare) }

/-- Read a value of two bytes when its presence flag is set. -/
def takeWord (present : Bool) (l : List Byte) : Option (Option Nat × List Byte) :=
  if present then
    match l with
    | h :: b :: rest => some (some (ofWord h b), rest)
    | _ => none
  else some (none, l)

/-- Read a run of `n` bytes. -/
def takeBytes (n : Nat) (l : List Byte) : Option (List Byte × List Byte) :=
  if n ≤ l.length then some (l.take n, l.drop n) else none

/-- Read one byte when its presence flag is set. -/
def takeByte (present : Bool) (l : List Byte) : Option (Option Byte × List Byte) :=
  if present then
    match l with
    | b :: rest => some (some b, rest)
    | [] => none
  else some (none, l)

/-- Decode a STATE payload from a station, each part in table order as the flags and counts of the frame call for; `none`
when the payload's length is not the sum they call for (R172). -/
def decodeState (station : Nat) (payload : List Byte) : Option StateFrame :=
  match payload with
  | b0 :: b1 :: c1 :: c0 :: b4 :: rest =>
    (takeWord (bitOf b4.toNat 7) rest).bind fun (pace, rest) =>
    (takeWord (bitOf b4.toNat 6) rest).bind fun (budget, rest) =>
    (takeWord (bitOf b4.toNat 5) rest).bind fun (demand, rest) =>
    (takeBytes (field b4.toNat 0 2) rest).bind fun (brushes, rest) =>
    (takeByte (bitOf b4.toNat 4) rest).bind fun (spray, rest) =>
    (takeByte true rest).bind fun (count, rest) =>
    (takeBytes (2 * field ((count.map BitVec.toNat).getD 0) 0 4) rest).bind fun (faults, rest) =>
    if rest.isEmpty then
      some
        { station := station, mode := field b0.toNat 4 4, period := field b0.toNat 0 3, claim := bitOf b1.toNat 7,
          overrun := bitOf b1.toNat 6, clamped := bitOf b1.toNat 5, rationed := bitOf b1.toNat 4, limp := bitOf b1.toNat 3,
          cap := ofWord c1 c0, pace := pace.map intOfWord, budget := budget, demand := demand,
          brushes := brushes.map decodeBrush, spray := spray.map decodeSpray, faults := decodeFaults faults }
    else none
  | _ => none

/-- Bring the fields of a received STATE frame into range before it is handed on (R114). -/
def StateFrame.clamp (f : StateFrame) : StateFrame :=
  { f with
    period := clampNat 1 5 f.period
    cap := min f.cap 4000
    pace := f.pace.map (clampInt (-4000) 4000)
    budget := f.budget.map (min 2000)
    demand := f.demand.map (min 2000)
    brushes := f.brushes.take 2
    faults := f.faults.take 7 }

/-! ### The COMMAND payload (R173) -/

/-- The kind and argument of a COMMAND payload after its target mask; `none` when the kind is not one of the seven or the
length is not the one the kind calls for (R173). -/
def decodeKind (kind : Byte) (args : List Byte) : Option CmdKind :=
  match kind.toNat, args with
  | 1, [a] => some (.mode a)
  | 2, [a] => some (.direction a)
  | 3, [h, l] => some (.limit (ofWord h l))
  | 4, [a] => some (.brush a)
  | 5, [o, r] => some (.spray o r)
  | 6, [] => some .clear
  | 7, [] => some .wake
  | _, _ => none

/-- The target mask and the command of a COMMAND payload (11, section 11.3). -/
def decodeCommand (sender : Nat) (payload : List Byte) : Option (Nat × Command) :=
  match payload with
  | h :: l :: kind :: args => (decodeKind kind args).map fun k => (ofWord h l, { sender := sender, kind := k })
  | _ => none

/-! ### The checks of a received frame (R112) -/

/-- What becomes of a frame the receiver has followed from its start bit. `brokenOff` and `unknownClass` end the reception at
the length byte or the arbitration field; the `discard` ones are found by the end of the frame. -/
inductive FrameFate where
  | unknownClass
  | brokenOff
  | badShape
  | badCrc
  | badEnd
  | state (f : StateFrame)
  | command (mask : Nat) (c : Command)
  deriving DecidableEq, Repr

/-- The checks of R112 that follow the class and the length, given what the payload decodes to. -/
def frameTail (f : BusFrame) (taken : Option FrameFate) : FrameFate :=
  match taken with
  | none => .badShape
  | some t => if !crcMatches f then .badCrc else if f.endField != 127#7 then .badEnd else t

/-- The checks of R112 in their order. -/
def frameFate (f : BusFrame) : FrameFate :=
  let n := f.payload.length
  if f.cls = 0#2 then
    if 3 ≤ n ∧ n ≤ 5 ∧ f.length.toNat = n then
      frameTail f ((decodeCommand f.station.toNat f.payload).map fun (mask, c) => .command mask c)
    else .brokenOff
  else if f.cls = 1#2 then
    if 6 ≤ n ∧ n ≤ 29 ∧ f.length.toNat = n then frameTail f ((decodeState f.station.toNat f.payload).map .state)
    else .brokenOff
  else .unknownClass

end Sys2Proof.Machine
end

