-- ==== Sys2Proof/Machine/FrameBuilder.lean ====
section
/-! DEFINITION. The frame builder (R111, R171), and what ends every event: what follows from its effect is set, and a link that has
entered ACTIVE gets its frame. -/

namespace Sys2Proof.Machine

/-- The brush report of an enabled channel (R53). -/
def Brush.report (b : Brush) (channel : Nat) : List BrushReport :=
  if b.state == .disabled then []
  else [{ channel := channel, state := b.state.code, overrun := b.overrun, starved := b.starved }]

/-- The spray report, while the channel is not DISABLED (R91). -/
def Spray.report (x : Spray) : Option SprayReport :=
  if x.state == .disabled then none
  else some { state := x.state.code, tankLow := x.state == .empty || x.tankLow, opened := x.opened }

/-- A fault record as its entry. -/
def Record.entry (r : Record) : FaultEntry := { source := r.source.code, state := r.state.code, code := r.code.code }

/-- The snapshot of the published values as they stand (R111, R23, R59, R66, R53, R91). -/
def State.snapshot (s : State) : StateFrame :=
  let claims := s.drive.state.claims
  { station := s.loader.station
    mode := s.ctl.mode.code
    period := s.cfg.general.periodCode
    claim := claims
    overrun := s.ctl.overrun
    clamped := s.loader.clamped
    rationed := s.ration.rationed
    limp := s.ctl.mode == .limp
    cap := s.ctl.ownCap
    pace := if claims && !s.drive.blind then some s.capture.pace else none
    budget := if claims then some s.ration.engineBudget else none
    demand := if s.anyBrush then some s.ration.demand else none
    brushes := s.brush0.report 0 ++ s.brush1.report 1
    spray := s.spray.report
    faults := s.ctl.faults.map Record.entry }

/-- Build the station's STATE frame into the pending place and start the period timer (R111). -/
def State.buildFrame (s : State) : State :=
  s.setLink
    { s.link with pending := some { snap := s.snapshot, discard := s.ctl.discard }, periodTimer := some s.now }

/-- What ends every event: the figures and flags that follow are set, and a link that has entered ACTIVE, having been in the
state `before`, has its frame built at once (R111). -/
def State.finish (before : LinkState) (s : State) : State :=
  let t := s.settle
  if t.link.state = .active ∧ before ≠ .active then t.buildFrame else t

end Sys2Proof.Machine
end

