-- ==== Sys2Proof/Machine/Capture.lean ====
section
/-! DEFINITION. The capture unit (08, sections 8.1 to 8.4): edges, periods, rates, the zero-rate timeout. -/

namespace Sys2Proof.Machine

/-- Replace one pulse input. -/
def Capture.setInput (c : Capture) (k : Pulse) (x : PulseInput) : Capture :=
  match k with
  | .wheel => { c with wheel := x }
  | .engine => { c with engine := x }
  | .brush0 => { c with brush0 := x }
  | .brush1 => { c with brush1 := x }
  | .flow => { c with flow := x }

/-- The zero-rate timeout of an input in ms (08, section 8.1). -/
def Image.zeroTimeout (i : Image) : Pulse → Nat
  | .wheel => i.drive.wheelTimeout
  | .engine => i.drive.engineTimeout
  | .brush0 => i.brush0.zeroTimeout
  | .brush1 => i.brush1.zeroTimeout
  | .flow => i.spray.flowTimeout

/-- The unit takes edges on an input: after a good load, in every mode but STANDBY and LIMP, a brush input only with its pickup
fitted (R140). -/
def State.captures (s : State) (k : Pulse) : Bool :=
  s.loader.outcome == .good && s.ctl.mode != .standby && s.ctl.mode != .limp &&
    (match k with
     | .brush0 => s.cfg.brush0.pulses != 0
     | .brush1 => s.cfg.brush1.pulses != 0
     | .wheel | .engine | .flow => true)

/-- The average period floor(S / k) (R145). -/
def averagePeriod (history : List Nat) : Nat := history.sum / history.length

/-- The rate an input forms from its history (R145, R146); 0 from an empty one. -/
def Image.rateOf (i : Image) (k : Pulse) (history : List Nat) : Nat :=
  if history.isEmpty then 0
  else
    let p := averagePeriod history
    match k with
    | .wheel => min 4000 (i.drive.tooth * 360 / p)
    | .engine => min 4000 (60000000 / (p * i.drive.enginePulses))
    | .brush0 => min 600 (60000000 / (p * i.brush0.pulses))
    | .brush1 => min 600 (60000000 / (p * i.brush1.pulses))
    | .flow => min 60000 (60000000000 / (p * i.spray.pulsesPerLitre))

/-- What an expired zero-rate timer leaves (R144). -/
def PulseInput.expired (_ : PulseInput) : PulseInput :=
  { reference := none, history := [], rate := 0, zeroRate := true, zeroTimer := none }

/-- A period joins the tail of the history, which keeps the 4 newest (R143). -/
def joinPeriod (history : List Nat) (p : Nat) : List Nat :=
  (if 4 ≤ history.length then history.drop 1 else history) ++ [p]

/-- An accepted edge that starts measuring afresh: the first one, or a reversing one (R141, R142). -/
def PulseInput.restartAt (_ : PulseInput) (now : Micros) : PulseInput :=
  { reference := some now, history := [], rate := 0, zeroRate := false, zeroTimer := some now }

/-- An accepted edge that forms a period from the reference edge `r` (R143). -/
def PulseInput.period (x : PulseInput) (i : Image) (k : Pulse) (r now : Micros) : PulseInput :=
  let h := joinPeriod x.history (now - r)
  { reference := some now, history := h, rate := i.rateOf k h, zeroRate := false, zeroTimer := some now }

/-- The first accepted edge after a start or a timeout: it becomes the reference and forms no period (R141). -/
def PulseInput.first (x : PulseInput) (now : Micros) : PulseInput :=
  { x with reference := some now, zeroRate := false, zeroTimer := some now }

/-- A rising edge on an input other than WHEEL, judged against the reference edge (R141, R143). -/
def PulseInput.edge (x : PulseInput) (i : Image) (k : Pulse) (now : Micros) : PulseInput :=
  match x.reference with
  | none => x.first now
  | some r => if now - r < 50 then x else x.period i k r now

/-- A rising edge on WHEEL with the level of WHEEL_B (R141 to R143). -/
def Capture.wheelEdge (c : Capture) (i : Image) (now : Micros) (rev : Bool) : Capture :=
  let x := c.wheel
  let judged : Capture :=
    if rev != c.reverse then { c with wheel := x.restartAt now, reverse := rev }
    else { c with wheel := x.edge i .wheel now }
  match x.reference with
  | none => judged
  | some r => if now - r < 50 then c else judged

/-- A zero-rate timeout that ran out before an edge is taken before it (R144; log 27). -/
def PulseInput.overdue (x : PulseInput) (timeout now : Micros) : PulseInput :=
  if ranFor x.zeroTimer now (timeout + 1) then x.expired else x

/-- The unit takes a rising edge (R141 to R143). -/
def State.takeEdge (s : State) (k : Pulse) : State :=
  let x := (s.capture.input k).overdue (ms (s.cfg.zeroTimeout k)) s.now
  let c := s.capture.setInput k x
  s.setCapture
    (match k with
     | .wheel => c.wheelEdge s.cfg s.now s.pins.wheelB
     | .engine | .brush0 | .brush1 | .flow => c.setInput k (x.edge s.cfg k s.now))

/-- The capture unit at STANDBY entry: every input as at reset, the WHEEL direction kept (R147). -/
def State.captureStandby (s : State) : State := s.setCapture { Capture.reset with reverse := s.capture.reverse }

end Sys2Proof.Machine
end

