-- ==== Sys2Proof/Machine/Drive.lean ====
section
/-! DEFINITION. The travel drive (01): the drive step and the events from other blocks that the drive takes. -/

namespace Sys2Proof.Machine

/-! ### The pedal (R3 to R5) -/

/-- The position of track A in per mille (R3). -/
def trackA (i : DriveCfg) (a : Nat) : Nat :=
  if i.aHi ≤ i.aLo then 0
  else if a ≤ i.aLo then 0
  else if i.aHi ≤ a then 1000
  else (a - i.aLo) * 1000 / (i.aHi - i.aLo)

/-- The position of track B in per mille, whose value falls with pedal travel (R3). -/
def trackB (i : DriveCfg) (b : Nat) : Nat :=
  if i.bHi ≤ i.bLo then 0
  else if i.bHi ≤ b then 0
  else if b ≤ i.bLo then 1000
  else (i.bHi - b) * 1000 / (i.bHi - i.bLo)

/-- The dead bands: the working position of a pedal position (R5). -/
def deadBand (i : DriveCfg) (p : Nat) : Nat :=
  if p ≤ i.deadLo then 0
  else if i.deadHi ≤ p then 1000
  else (p - i.deadLo) * 1000 / (i.deadHi - i.deadLo)

/-- Track A's position as the converter holds it now. -/
def State.posA (s : State) : Nat := trackA s.cfg.drive s.conv.pedalA.value

/-- Track B's position as the converter holds it now. -/
def State.posB (s : State) : Nat := trackB s.cfg.drive s.conv.pedalB.value

/-- The tracks are in disagreement (R4). -/
def State.tracksDisagree (s : State) : Bool :=
  decide (s.cfg.drive.tolerance < ((s.posA : Int) - s.posB).natAbs) ||
    s.conv.pedalA.status == .outOfRange || s.conv.pedalB.status == .outOfRange

/-- The working position that the tracks themselves give, whatever the fault flag (R4, R5). -/
def State.trackPosition (s : State) : Nat := deadBand s.cfg.drive ((s.posA + s.posB) / 2)

/-- The pedal disagreement timing at this step; it is the onset's only while the flag is clear (R4). -/
def State.disagreeTiming (s : State) : Timer :=
  runWhile (!s.drive.pedalFault && s.tracksDisagree) s.drive.disagreeTimer s.now

/-- The pedal recovery timing at this step (R4). -/
def State.recoverTiming (s : State) : Timer :=
  runWhile (s.drive.pedalFault && !s.tracksDisagree && s.trackPosition == 0) s.drive.recoverTimer s.now

/-- The drive step runs: not in DISABLED, and not while the station is in STANDBY (R1). -/
def State.driveStepRuns (s : State) : Bool := s.drive.state != .disabled && s.ctl.mode != .standby

/-- Track disagreement has held for 100 ms at this step (R4). -/
def State.pedalOnsetMet (s : State) : Bool := s.driveStepRuns && ranFor s.disagreeTiming s.now (ms 100)

/-- Agreement with p' = 0 has held for 500 ms at this step (R4). -/
def State.pedalRecoveryMet (s : State) : Bool := s.driveStepRuns && ranFor s.recoverTiming s.now (ms 500)

/-- A PEDAL onset makes an ACTIVE record at the tail unless a latched drive condition is held (R19). -/
def State.postPedal (s : State) : State :=
  if s.drive.coilLatch || s.drive.blind || s.drive.state == .yielded || (s.ctl.record .drive).isSome then s
  else s.setCtl (s.ctl.putRecord .drive .pedal .active)

/-- A PEDAL withdrawal removes the DRIVE record if it is ACTIVE with code PEDAL (R19). -/
def State.withdrawPedal (s : State) : State :=
  if s.ctl.record .drive = some { source := .drive, code := .pedal, state := .active } then
    s.setCtl (s.ctl.dropRecord .drive)
  else s

/-- A latched code of the drive: the DRIVE record becomes LATCHED with it, at its place or at the tail (R19). -/
def State.postDrive (s : State) (code : FaultCode) : State := s.setCtl (s.ctl.putRecord .drive code .latched)

/-- Stage 2 of the drive step: the pedal check and the pedal position (R3 to R5, R19). -/
def State.pedalStage (s : State) : State :=
  let disagree := s.disagreeTiming
  let recover := s.recoverTiming
  if ranFor disagree s.now (ms 100) then
    ((s.setDrive { s.drive with pedalFault := true, pedal := 0, disagreeTimer := none, recoverTimer := none })).postPedal
  else if ranFor recover s.now (ms 500) then
    ((s.setDrive
      { s.drive with
        pedalFault := false, pedal := s.trackPosition, disagreeTimer := none, recoverTimer := none })).withdrawPedal
  else
    s.setDrive
      { s.drive with
        pedal := if s.drive.pedalFault then 0 else s.trackPosition, disagreeTimer := disagree, recoverTimer := recover }

/-! ### Demand, ramp and duty (R6 to R9, R17) -/

/-- The quantity that the conditions on |v| read: |v|, or the ramp target in blind operation (R11, R17). -/
def State.restSpeed (s : State) : Nat := if s.drive.blind then s.drive.ramp else s.capture.pace.natAbs

/-- The travel demand d with a given engaged direction, outside TURNING (R6, R17). -/
def State.demandFor (s : State) (engaged : Dir) : Nat :=
  let d1 := s.drive.pedal * s.modeCap / 1000
  let d2 := if engaged = .rev then d1 * s.cfg.drive.reverseRatio / 100 else d1
  let d3 := min d2 s.effectiveCap
  let d4 := if s.drive.blind then min d3 s.creepCap else d3
  if engaged = .neutral then 0 else d4

/-- The ramp target after the ramp stage, moving toward the demand (R7). -/
def State.rampToward (s : State) (d : Nat) : Nat :=
  let i := s.cfg.drive
  let r := s.drive.ramp
  let fall := if s.effectiveCap = 0 then i.aStop else i.aDn
  if r < d then min d (r + i.aUp) else max d (r - fall)

/-- The feed-forward duty (R9). -/
def feedForward (i : DriveCfg) (r : Nat) : Nat :=
  if r = 0 then 0 else clampNat 0 1000 (i.uMin + r * (1000 - i.uMin) / i.paceFull)

/-- The integrator's update with its anti-windup (R8). -/
def integrate (i : DriveCfg) (integ prevRaw e : Int) : Int :=
  if (1000 ≤ prevRaw ∧ 0 < e) ∨ (prevRaw ≤ 0 ∧ e < 0) then integ
  else clampInt (-((i.iMax : Int) * 100)) ((i.iMax : Int) * 100) (integ + trunc ((i.ki : Int) * e) 100)

/-- What the duty stage gives: the coil duty u, the integrator and the raw output kept (R8, R9, R17). -/
def dutyStage (i : DriveCfg) (blind : Bool) (r speed : Nat) (integ prevRaw : Int) : Nat × Int × Int :=
  if blind then (min (feedForward i r) i.creepDuty, 0, 0)
  else if r = 0 ∧ speed ≤ 30 then (0, 0, 0)
  else
    let e : Int := (r : Int) - speed
    let integ' := integrate i integ prevRaw e
    let raw : Int := (feedForward i r : Int) + trunc ((i.kp : Int) * e) 1000 + trunc integ' 100
    ((clampInt 0 1000 raw).toNat, integ', raw)

/-- The duty of the last step: the raw output kept, clamped to 0..1000 (R9, R17; log 15). -/
def Drive.lastDuty (d : Drive) : Nat := (clampInt 0 1000 d.prevRaw).toNat

/-! ### Blind detection (R16) -/

/-- The blind detection timing at this step (R16). -/
def State.blindTiming (s : State) : Timer :=
  runWhile
    ((s.drive.state == .driving || s.drive.state == .turning) && !s.drive.blind && decide (300 ≤ s.drive.lastDuty) &&
      s.capture.wheel.zeroRate)
    s.drive.blindTimer s.now

/-- A duty of 300 or more at zero rate has held for 2000 ms at this step (R16). -/
def State.blindMetAtStep (s : State) : Bool := s.driveStepRuns && ranFor s.blindTiming s.now (ms 2000)

/-- The blind detection of the step (R16). -/
def State.blindStage (s : State) : State :=
  if ranFor s.blindTiming s.now (ms 2000) then
    (s.setDrive { s.drive with blind := true, blindTimer := none, integ := 0, prevRaw := 0 }).postDrive .wheelSensor
  else s.setDrive { s.drive with blindTimer := s.blindTiming }

/-! ### Direction and state rules (R11 to R14) -/

/-- What the direction and state rules of a step come to. -/
inductive DriveMove where
  /-- no rule changes the state -/
  | stay
  /-- the requested direction is engaged (R12, R14) -/
  | engage
  /-- a direction change at speed: TURNING (R13) -/
  | turn
  /-- the request is withdrawn: TURNING ends in DRIVING (R14) -/
  | withdraw
  /-- STANDSTILL is left for DRIVING (R11) -/
  | moveOff
  /-- the stop timing ends in STANDSTILL (R11) -/
  | stop
  deriving DecidableEq, Repr

/-- The stop timing at a step whose state is DRIVING (R11; log 16). -/
def State.stopTiming (s : State) : Timer :=
  runWhile (s.drive.ramp == 0 && decide (s.restSpeed ≤ 30) && s.demandFor s.drive.engaged == 0) s.drive.stopTimer s.now

/-- The turn timing at a step in TURNING (R13, R14). -/
def State.turnTiming (s : State) : Timer := runWhile (decide (s.restSpeed ≤ 30)) s.drive.turnTimer s.now

/-- The direction and state rules, tested on the state after the pedal and blind stages (R11 to R14). -/
def State.driveMove (s : State) : DriveMove :=
  match s.drive.state with
  | .standstill =>
    if s.ctl.requested ≠ s.drive.engaged then (if s.restSpeed ≤ 30 then .engage else .turn)
    else if 0 < s.demandFor s.drive.engaged ∧ s.ctl.mode.permitsTravel then .moveOff
    else .stay
  | .driving =>
    if s.ctl.requested ≠ s.drive.engaged then (if s.restSpeed ≤ 30 then .engage else .turn)
    else if ranFor s.stopTiming s.now (ms 2000) then .stop
    else .stay
  | .turning =>
    if s.ctl.requested = s.drive.engaged then .withdraw
    else if ranFor s.turnTiming s.now (ms 200) then .engage
    else .stay
  | .disabled | .yielded | .held | .latched => .stay

/-- The coil hold after an engagement: the new coil waits for the old coil's next period start (R10; log 18). -/
def holdAfter (old new : Dir) (hold : Option Dir) : Option Dir :=
  if old ≠ .neutral ∧ new ≠ .neutral then some new else hold

/-- Engage the requested direction (R12, R14). -/
def State.engage (s : State) : State :=
  let new := s.ctl.requested
  let go := 0 < s.demandFor new ∧ s.ctl.mode.permitsTravel
  s.setDrive
    { s.drive with
      engaged := new, ramp := 0, integ := 0, prevRaw := 0, hold := holdAfter s.drive.engaged new s.drive.hold,
      state := if go then .driving else .standstill, stopTimer := none, turnTimer := none }

/-- Stage 3 of the drive step: the state after the direction and state rules (R11 to R14). TURNING keeps no stop timing, and a
withdrawal starts it at its own step (DESIGN CHOICE, log 44). -/
def State.moveStage (s : State) : State :=
  match s.driveMove with
  | .engage => s.engage
  | .turn => s.setDrive { s.drive with state := .turning, stopTimer := none, turnTimer := none }
  | .withdraw => s.setDrive { s.drive with state := .driving, turnTimer := none, stopTimer := s.stopTiming }
  | .moveOff => s.setDrive { s.drive with state := .driving, stopTimer := none }
  | .stop => s.setDrive { s.drive with state := .standstill, stopTimer := none }
  | .stay =>
    match s.drive.state with
    | .driving => s.setDrive { s.drive with stopTimer := s.stopTiming }
    | .turning => s.setDrive { s.drive with turnTimer := s.turnTiming }
    | .standstill | .disabled | .yielded | .held | .latched => s

/-- Stage 4 of the drive step: the demand and the ramp target; an engaging step leaves r at 0 (R6, R7, R12). -/
def State.rampStage (engaging : Bool) (s : State) : State :=
  let d := if s.drive.state = .turning then 0 else s.demandFor s.drive.engaged
  if engaging then s else s.setDrive { s.drive with ramp := s.rampToward d }

/-- Stage 5 of the drive step: the coil duty, written to the engaged coil unless the coil hold keeps it at 0 (R8 to R10,
R17). -/
def State.coilStage (s : State) : State :=
  let (u, integ, raw) :=
    dutyStage s.cfg.drive s.drive.blind s.drive.ramp s.capture.pace.natAbs s.drive.integ s.drive.prevRaw
  let t := s.setDrive { s.drive with integ := integ, prevRaw := raw }
  let dutyOf (d : Dir) : Nat := if s.drive.engaged = d ∧ s.drive.hold ≠ some d then u else 0
  t.writeDriveCoils (dutyOf .fwd) (dutyOf .rev)

/-- PARK_RELEASE is active (R15). -/
def State.parkReleased (s : State) : Bool :=
  match s.drive.state with
  | .driving | .turning => true
  | .standstill => s.drive.engaged != .neutral && s.ctl.mode.permitsTravel && decide (0 < s.drive.pedal)
  | .disabled | .yielded | .held | .latched => false

/-- The states in which the step makes the demand, ramp and duty stages (R1). -/
def DriveState.moving : DriveState → Bool
  | .standstill | .driving | .turning => true
  | .disabled | .yielded | .held | .latched => false

/-- The drive step (R1): the stages in their order, or, in YIELDED, HELD and LATCHED, the pedal check with r at 0 and the
outputs off. Blind detection, which R1's list does not place, comes between the pedal check and the direction rules (DESIGN CHOICE,
log 49). -/
def State.driveStep (s : State) : State :=
  let a := s.pedalStage
  if a.drive.state.moving then
    let b := a.blindStage
    let c := (b.moveStage.rampStage (b.driveMove == .engage)).coilStage
    c.setPark c.parkReleased
  else ((a.setDrive { a.drive with ramp := 0 }).writeDriveCoils 0 0).setPark false

/-- The stop timing is met at this step (R11). -/
def State.stopMet (s : State) : Bool := s.driveStepRuns && s.pedalStage.blindStage.driveMove == .stop

/-- The turn timing is met at this step (R14). -/
def State.turnMet (s : State) : Bool :=
  s.driveStepRuns && s.drive.state == .turning && s.pedalStage.blindStage.driveMove == .engage

/-! ### Events from other blocks -/

/-- The drive with nothing to drive: r, I and the previous raw output 0, the stop, turn and blind timers stopped, no coil
hold (R18, R21, R22). -/
def Drive.halted (d : Drive) : Drive :=
  { d with
    ramp := 0, integ := 0, prevRaw := 0, hold := none, stopTimer := none, turnTimer := none, blindTimer := none }

/-- Both coils written 0 and PARK_RELEASE set inactive. -/
def State.driveOff (s : State) : State := (s.writeDriveCoils 0 0).setPark false

/-- The drive takes a COIL_OPEN or COIL_SHORT report for one of its coils (R18). -/
def State.driveCoilReport (s : State) (code : FaultCode) : State :=
  match s.drive.state with
  | .standstill | .driving | .turning | .held =>
    ((s.setDrive { s.drive.halted with state := .latched, coilLatch := true }).driveOff).postDrive code
  | .latched => s.postDrive code
  | .yielded => (s.setDrive { s.drive with coilLatch := true }).postDrive code
  | .disabled => s

/-- The drive takes the start of a SUPPLY condition (R21). -/
def State.driveSupplyStart (s : State) : State :=
  if s.drive.state.moving then (s.setDrive { s.drive.halted with state := .held }).driveOff else s

/-- The drive takes the release of a SUPPLY condition (R21). -/
def State.driveSupplyRelease (s : State) : State :=
  if s.drive.state = .held then s.setDrive { s.drive with state := .standstill } else s

/-- The drive takes a report of a lower-numbered claimant (R22, R24). The ration unit's engine budget stays as the last ration step
left it until the next one (R55; R60; DESIGN CHOICE, log 50). -/
def State.driveYield (s : State) : State :=
  if s.drive.state.claims then
    (((s.setDrive { s.drive.halted with state := .yielded, boost := false, boostTimer := none }).driveOff).syncBoost).postDrive
      .claim
  else s

/-- The drive's tests at a CLEAR (R20). -/
def State.driveClearPasses (s : State) : Bool :=
  let d := s.drive
  (!d.coilLatch || (decide (s.restSpeed ≤ 30) && d.pedal == 0)) &&
    (!d.blind || d.state == .standstill || d.state == .latched || d.state == .yielded) &&
    (d.state != .yielded || !s.lowerClaimant)

/-- The drive takes a CLEAR: with its record LATCHED and every test passed, the record goes, the conditions end by their
restart path, and a standing pedal fault is posted anew (R20). -/
def State.driveClear (s : State) : State :=
  if s.ctl.recordState .drive = some .latched ∧ s.driveClearPasses then
    let d := s.drive
    let cleared := { d with coilLatch := false, blind := false }
    let back : Drive :=
      if d.state = .latched ∨ d.state = .yielded then
        { cleared with state := .standstill, ramp := 0, integ := 0, prevRaw := 0 }
      else cleared
    let t := (s.setDrive back).setCtl (s.ctl.dropRecord .drive)
    if d.pedalFault then t.postPedal else t
  else s

/-- The drive at STANDBY entry (R25, R24). -/
def State.driveStandby (s : State) : State :=
  let d := s.drive
  ((s.setDrive
      { d.halted with
        state := match d.state with
          | .standstill | .driving | .turning | .held => .standstill
          | .disabled => .disabled
          | .yielded => .yielded
          | .latched => .latched
        engaged := .neutral, pedal := 0, pedalFault := false, disagreeTimer := none, recoverTimer := none,
        boost := false, boostTimer := none }).driveOff).syncBoost

/-- The drive takes the period-start notice of a coil: the old coil's notice ends the coil hold (R10, R156). -/
def State.drivePeriodStart (s : State) (c : Coil) : State :=
  match c, s.drive.hold with
  | .driveF, some .rev => s.setDrive { s.drive with hold := none }
  | .driveR, some .fwd => s.setDrive { s.drive with hold := none }
  | _, _ => s

end Sys2Proof.Machine
end

