-- ==== Sys2Proof/Machine/Ration.lean ====
section
/-! DEFINITION. The ration unit (03): schedule, demands, budget, ratio, grants, ration cap, and the boost request's evaluation
(R24). All figures of one step are formed from the state that stage 1 of the brush step left. -/

namespace Sys2Proof.Machine

/-- The scheduled speed at a pace: straight lines between breakpoints, the first point's speed below it, the last point's at
and above it (R57). -/
def scheduleRpm : List (Nat × Nat) → Nat → Nat
  | [], _ => 0
  | [(_, y)], _ => y
  | (x0, y0) :: (x1, y1) :: rest, v =>
    if v < x1 then
      (if v < x0 then y0 else (y0 * (x1 - v) + y1 * (v - x0)) / (x1 - x0))
    else scheduleRpm ((x1, y1) :: rest) v

/-- The flow a motor needs at a speed, clamped to 0..2000 (R58). -/
def flowDemand (i : BrushCfg) (n : Nat) : Nat := min 2000 (ceilDiv (n * i.vm * 10) i.etaM)

/-- The speed a flow turns a motor at (R64). -/
def flowSpeed (i : BrushCfg) (g : Nat) : Nat := g * i.etaM / (i.vm * 10)

/-- The scheduled speed of a channel (R57). -/
def State.scheduled (s : State) (c : Chan) : Nat :=
  match s.paceView.magnitude with
  | some v => scheduleRpm (s.cfg.brush c).points v
  | none => (s.cfg.brush c).blindRpm

/-- The demand of a channel used for sharing (R58). -/
def State.channelDemand (s : State) (c : Chan) : Nat :=
  if (s.brush c).state.working then flowDemand (s.cfg.brush c) (s.scheduled c) else 0

/-- The would-be demand of a channel (R58). -/
def State.wouldBeDemand (s : State) (c : Chan) : Nat :=
  if (s.brush c).state = .waiting then flowDemand (s.cfg.brush c) (s.scheduled c) else 0

/-- The station's own current demand (R59). -/
def State.ownDemand (s : State) : Nat := s.channelDemand .c0 + s.channelDemand .c1

/-- The engine budget of this step, 0 on a station whose drive does not claim (R60). -/
def State.formEngineBudget (s : State) : Nat :=
  if s.drive.state.claims then
    min 2000 (s.capture.engine.rate * s.cfg.drive.va * s.cfg.drive.etaA / 100000)
  else 0

/-- The budget B used for sharing (R61). -/
def State.formBudget (s : State) : Nat := (s.budgetView s.formEngineBudget).value

/-- The total demand (R62). -/
def State.formTotal (s : State) : Nat := s.peerDemands + s.ownDemand

/-- A flow ratio in per mille (R63, R65). -/
def flowRatio (budget total : Nat) : Nat := if total = 0 then 1000 else min 1000 (budget * 1000 / total)

/-- The grant of a demand (R63). -/
def grantOf (budget total demand : Nat) : Nat := if total ≤ budget then demand else demand * budget / total

/-- The flow ratio of this step, held at 1000 on a station with no enabled brush channel (R63, R66). -/
def State.formRatio (s : State) : Nat := if s.anyBrush then flowRatio s.formBudget s.formTotal else 1000

/-- The figures of one channel (R57, R58, R63 to R65). -/
def State.formShare (s : State) (c : Chan) : Share :=
  if s.brushEnabled c then
    let g := grantOf s.formBudget s.formTotal (s.channelDemand c)
    { n := s.scheduled c
      demand := s.channelDemand c
      grant := g
      granted := min (s.scheduled c) (flowSpeed (s.cfg.brush c) g)
      wouldBe :=
        if (s.brush c).state = .waiting then flowRatio s.formBudget (s.formTotal + s.wouldBeDemand c) else 0 }
  else .zero

/-- The ration cap's onset timing at this step (R67). -/
def State.rationOnset (s : State) : Timer :=
  runWhile (s.anyBrush && !s.ration.capActive && decide (s.formRatio < 800)) s.ration.onsetTimer s.now

/-- The ration cap's release timing at this step (R68). -/
def State.rationRelease (s : State) : Timer :=
  runWhile (s.anyBrush && s.ration.capActive && decide (900 ≤ s.formRatio)) s.ration.releaseTimer s.now

/-- The ration cap is active after this step (R66 to R68). -/
def State.rationActive (s : State) : Bool :=
  s.anyBrush && ((s.ration.capActive && !ranFor s.rationRelease s.now (ms 2000)) || ranFor s.rationOnset s.now (ms 1000))

/-- The value an active ration cap posts (R67). -/
def State.rationCapValue (s : State) : Nat := s.cfg.drive.sweepCap * s.formRatio / 1000

/-- The ration unit after this step (R55). -/
def State.formRation (s : State) : Ration :=
  { share0 := s.formShare .c0
    share1 := s.formShare .c1
    demand := min 2000 s.ownDemand
    engineBudget := s.formEngineBudget
    budget := s.formBudget
    total := s.formTotal
    ratio := s.formRatio
    rationed := s.anyBrush && decide (s.formRatio < 1000)
    capActive := s.rationActive
    onsetTimer := if s.rationActive then none else s.rationOnset
    releaseTimer := if s.ration.capActive && s.rationActive then s.rationRelease else none }

/-- The boost request's evaluation at a ration step (R24). -/
def Drive.evalBoost (d : Drive) (i : DriveCfg) (now budget total : Nat) : Drive :=
  if d.boost then
    (if total ≤ budget * (i.boostThreshold - 50) / 1000 ∧ ranFor d.boostTimer now (ms i.boostHold) then
      { d with boost := false, boostTimer := none }
    else d)
  else if budget * i.boostThreshold / 1000 < total then { d with boost := true, boostTimer := some now }
  else d

/-- The ration step, stage 2 of the brush step (R55): the figures, the ration cap posted or withdrawn, and, on a station
whose drive claims, the boost request. -/
def State.rationStep (s : State) : State :=
  let r := s.formRation
  let t := (s.setRation r).setCtl
    { s.ctl with
      contrib := { s.ctl.contrib with ration := if r.capActive then some s.rationCapValue else none } }
  if s.drive.state.claims then (t.setDrive (s.drive.evalBoost s.cfg.drive s.now r.budget r.total)).syncBoost else t

/-- The ration unit at STANDBY entry (R69). -/
def State.rationStandby (s : State) : State :=
  (s.setRation Ration.reset).setCtl
    { s.ctl with contrib := { s.ctl.contrib with ration := none } }

end Sys2Proof.Machine
end

