-- ==== Sys2Proof/Machine/Brush.lean ====
section
/-! DEFINITION. The brush channels (02): what ends a state at a step, the three stages of the brush step, and the events from
other blocks that a channel takes. -/

namespace Sys2Proof.Machine

/-! ### What a channel reads in stage 1 (R26) -/

/-- The inputs of one channel as they stand when the step begins, and the ration unit's figures of the step before. -/
structure BrushIn where
  now      : Micros
  cfg      : BrushCfg
  called   : Bool
  armUp    : Bool
  armDown  : Bool
  pressure : Nat
  status   : ConvStatus
  speed    : Nat
  share    : Share
  deriving DecidableEq, Repr

/-- The inputs of a channel at this step. -/
def State.brushIn (s : State) (c : Chan) : BrushIn :=
  { now := s.now
    cfg := s.cfg.brush c
    called := s.brushCalled c
    armUp := armUpOf s.pins c
    armDown := armDownOf s.pins c
    pressure := s.pressure c
    status := s.pressureStatus c
    speed := (s.capture.input (pickupOf c)).rate
    share := s.ration.share c }

/-- The pressure can be used: VALID or SETTLING (R31, R38). -/
def BrushIn.usable (i : BrushIn) : Bool := i.status != .outOfRange

/-- The hard limit H = floor(P_lim × 5 / 4) is exceeded (R38). -/
def BrushIn.overHard (i : BrushIn) : Bool := i.usable && decide (i.cfg.pLim * 5 / 4 < i.pressure)

/-- The pressure is over P_lim (R40 to R42). -/
def BrushIn.overLimit (i : BrushIn) : Bool := i.usable && decide (i.cfg.pLim < i.pressure)

/-- The overrun threshold (R43). -/
def BrushIn.overrunLevel (i : BrushIn) : Nat := i.share.granted * 5 / 4 + 20

/-- A speed pickup is fitted (R43, R46). -/
def BrushIn.pickup (i : BrushIn) : Bool := i.cfg.pulses != 0

/-- The contact condition of the channel's contact mode at this step (R31): PRESSURE 0, SWITCH 1, TIMED 2. -/
def BrushIn.contact (i : BrushIn) : Bool :=
  match i.cfg.contactMode with
  | 0 => i.usable && decide (i.cfg.contactLevel ≤ i.pressure)
  | 1 => i.armDown
  | _ => true

/-! ### Timings at a step -/

/-- The timings "for t" of one channel at this step; those of the states it is not in stand stopped (R31 to R44). -/
def Brush.tick (b : Brush) (i : BrushIn) : Brush :=
  let sweeping := b.state == .sweeping
  let working := b.state.working
  { b with
    contactTimer := runWhile (b.state == .descending && i.contact) b.contactTimer i.now
    lossTimer := runWhile (sweeping && i.cfg.contactMode == 0 && i.usable && decide (i.pressure < i.cfg.lossLevel))
      b.lossTimer i.now
    starveTimer := runWhile (sweeping && decide (i.share.grant * 4 < i.share.demand)) b.starveTimer i.now
    resumeTimer := runWhile (b.state == .waiting && i.called && decide (500 ≤ i.share.wouldBe)) b.resumeTimer i.now
    tripTimer := runWhile (working && i.cfg.limitMode == 0 && i.overLimit) b.tripTimer i.now
    stallTimer := runWhile (working && i.cfg.limitMode == 1 && i.overLimit) b.stallTimer i.now
    onsetTimer := runWhile (sweeping && i.pickup && !b.overrun && decide (i.overrunLevel < i.speed)) b.onsetTimer i.now
    clearTimer := runWhile (sweeping && b.overrun && decide (i.speed ≤ i.share.granted)) b.clearTimer i.now }

/-! ### What the step comes to -/

/-- The condition that a channel's step meets: the first row of its state's table that is met, or none. -/
inductive BrushCause where
  | none
  | called
  | released
  | contact
  | lost
  | starved
  | resumed
  | waitingReleased
  | spinDownEnd
  | armUp
  | recoveryEnd
  | overrunOnset
  | overrunClear
  | descendTimeout
  | raiseTimeout
  | hardLimit
  | sensor
  | trip
  | stall
  | overrunStanding
  deriving DecidableEq, Repr

/-- The pressure and sensor faults of DESCENDING and SWEEPING, in the order R38 to R42; `rest` if there is none. The tables of
R30 and R33 give their one row no order inside it (DESIGN CHOICE, log 46). -/
def Brush.pressureCause (b : Brush) (i : BrushIn) (rest : BrushCause) : BrushCause :=
  if i.overHard then .hardLimit
  else if !i.usable then .sensor
  else if ranFor b.tripTimer i.now (ms i.cfg.tTrip) then .trip
  else if ranFor b.stallTimer i.now (ms i.cfg.tHoldMax) then .stall
  else rest

/-- What a DESCENDING channel's step meets, in the order of the table of R30. -/
def Brush.descendingCause (b : Brush) (i : BrushIn) : BrushCause :=
  if !i.called then .released
  else if ranFor b.contactTimer i.now (ms i.cfg.tContact) then .contact
  else if ranFor b.descendTimer i.now (ms i.cfg.descendTimeout) then .descendTimeout
  else b.pressureCause i .none

/-- What the overrun rules make of a SWEEPING channel's step: a condition that clears at the step has not stood too long
(R43, R44; DESIGN CHOICE, log 46). -/
def Brush.overrunCause (b : Brush) (i : BrushIn) : BrushCause :=
  if ranFor b.clearTimer i.now (ms 1000) then .overrunClear
  else if ranFor b.standingTimer i.now (ms 3000) then .overrunStanding
  else if ranFor b.onsetTimer i.now (ms 300) then .overrunOnset
  else .none

/-- What a SWEEPING channel's step meets, in the order of the table of R33; then the overrun rules that leave it SWEEPING
(R43, R44). Of the faults of its one row, the pressure and sensor faults come before OVERRUN (DESIGN CHOICE, log 46). -/
def Brush.sweepingCause (b : Brush) (i : BrushIn) : BrushCause :=
  if !i.called then .released
  else if ranFor b.starveTimer i.now (ms 2000) then .starved
  else if ranFor b.lossTimer i.now (ms i.cfg.tLoss) then .lost
  else b.pressureCause i (b.overrunCause i)

/-- What a RAISING channel's step meets: the end of the spin-down (R35), then ARM_UP or the raise timeout (R35, R36). -/
def Brush.raisingCause (b : Brush) (i : BrushIn) : BrushCause :=
  if i.overHard then .hardLimit
  else if b.raiseTimer.isSome then
    (if i.armUp then .armUp
    else if ranFor b.raiseTimer i.now (ms i.cfg.raiseTimeout) then .raiseTimeout
    else .none)
  else if ranFor b.spinTimer i.now (ms i.cfg.spinDown) then .spinDownEnd
  else .none

/-- What a channel's step meets, with its timings already taken (R29 to R48). The hard limit is tested first in STOWED,
RAISING and WAITING (log 19). -/
def Brush.cause (b : Brush) (i : BrushIn) : BrushCause :=
  match b.state with
  | .stowed => if i.overHard then .hardLimit else if i.called then .called else .none
  | .descending => b.descendingCause i
  | .sweeping => b.sweepingCause i
  | .raising => b.raisingCause i
  | .waiting =>
    if i.overHard then .hardLimit
    else if !i.called then .waitingReleased
    else if ranFor b.resumeTimer i.now (ms 1000) then .resumed
    else .none
  | .fault => if ranFor b.recoveryTimer i.now (ms 2000) then .recoveryEnd else .none
  | .disabled | .held | .latched => .none

/-- What a channel's step meets at this brush step. -/
def State.brushCause (s : State) (c : Chan) : BrushCause := ((s.brush c).tick (s.brushIn c)).cause (s.brushIn c)

/-! ### Entries to states -/

/-- Every timer stopped. -/
def Brush.stopTimers (b : Brush) : Brush :=
  { b with
    contactTimer := none, descendTimer := none, lossTimer := none, starveTimer := none, spinTimer := none,
    raiseTimer := none, resumeTimer := none, tripTimer := none, stallTimer := none, onsetTimer := none,
    clearTimer := none, standingTimer := none, recoveryTimer := none }

/-- The overrun condition ended and its cap with it (R44). -/
def Brush.endOverrun (b : Brush) : Brush :=
  { b with overrun := false, overrunCap := 0, onsetTimer := none, clearTimer := none, standingTimer := none }

/-- What every entry to a state with the motor off has in common: motor duty 0, ceiling unlimited, T and the previous
unclamped duty 0, the overrun condition ended, every timer stopped (R35, R41, R45 to R47, R51, R54). -/
def Brush.motorOff (b : Brush) : Brush :=
  { b.endOverrun.stopTimers with ceiling := none, trim := 0, prevDuty := 0, lastDuty := 0 }

/-- Entry to DESCENDING from STOWED or WAITING (R29): the contact timing starts as the condition stands (log 21). -/
def Brush.enterDescending (b : Brush) (i : BrushIn) : Brush :=
  { b.motorOff with
    state := .descending, starved := false, descendTimer := some i.now, contactTimer := runWhile i.contact none i.now }

/-- The return from SWEEPING to DESCENDING at a loss of contact: the motor keeps its duty and trim (R33). -/
def Brush.loseContact (b : Brush) (i : BrushIn) : Brush :=
  { b.endOverrun.stopTimers with
    state := .descending, ceiling := none, descendTimer := some i.now,
    contactTimer := runWhile i.contact none i.now }

/-- Contact: DESCENDING becomes SWEEPING (R30, R31). -/
def Brush.makeContact (b : Brush) : Brush :=
  { b with state := .sweeping, contactTimer := none, descendTimer := none }

/-- Entry to RAISING, in its spin-down phase (R35). -/
def Brush.enterRaising (b : Brush) (now : Micros) (starved : Bool) : Brush :=
  { b.motorOff with state := .raising, starved := starved, spinTimer := some now }

/-- RAISING ends with the arm up: WAITING with the starved mark, STOWED without (R35). -/
def Brush.arrived (b : Brush) : Brush :=
  { b.stopTimers with state := if b.starved then .waiting else .stowed }

/-- The end of the spin-down: the arm is up already, or LIFT is set and the raise timer starts (R35, R36). -/
def Brush.endSpinDown (b : Brush) (i : BrushIn) : Brush :=
  if i.armUp then b.arrived else { b with spinTimer := none, raiseTimer := some i.now }

/-- Entry to RAISING at a step: a spin-down time of 0 ends at the entry step itself (R35). -/
def Brush.enterRaisingAtStep (b : Brush) (i : BrushIn) (starved : Bool) : Brush :=
  let r := b.enterRaising i.now starved
  if i.cfg.spinDown = 0 then r.endSpinDown i else r

/-- Entry to FAULT or LATCHED with a code (R47, R48): FAULT starts the recovery delay. The code stays until the next fault, also
when the channel leaves FAULT or LATCHED (DESIGN CHOICE, log 48). -/
def Brush.enterFault (b : Brush) (now : Micros) (code : FaultCode) (st : RecordState) : Brush :=
  { b.motorOff with
    state := if st = .active then .fault else .latched, starved := false, code := some code,
    recoveryTimer := if st = .active then some now else none }

/-- The overrun condition begins to stand, with its cap taken from the pace view (R43). -/
def Brush.startOverrun (b : Brush) (now : Micros) (cap : Nat) : Brush :=
  { b with overrun := true, overrunCap := cap, onsetTimer := none, clearTimer := none, standingTimer := some now }

/-- The HOLD ceiling's adjustment at a step in DESCENDING or SWEEPING (R41). -/
def Brush.adjustCeiling (b : Brush) (i : BrushIn) : Brush :=
  if i.cfg.limitMode = 1 ∧ i.usable then
    if i.cfg.pLim < i.pressure then { b with ceiling := some (b.ceiling.getD b.lastDuty - 10) }
    else if i.pressure < i.cfg.pLim - 100 then
      { b with ceiling := b.ceiling.bind fun c => if 1000 ≤ c + 10 then none else some (c + 10) }
    else b
  else b

/-! ### Faults and records -/

/-- The overrun cap at onset: three quarters of the pace's magnitude, or the creep cap (R43). -/
def State.overrunCapNow (s : State) : Nat :=
  match s.paceView.magnitude with
  | some v => v * 3 / 4
  | none => s.creepCap

/-- Post a brush fault by the common latching rule and enter FAULT or LATCHED as it says (R47). -/
def State.brushFault (s : State) (c : Chan) (code : FaultCode) : State :=
  let (ctl, st) := s.ctl.post s.now (countedOf c) code
  (s.setCtl ctl).setBrush c ((s.brush c).enterFault s.now code st)

/-- Replace a channel; one that has reached STOWED asks for its RECOVERING record to be removed (R48). -/
def State.setBrushAndRecord (s : State) (c : Chan) (b : Brush) : State :=
  let t := s.setBrush c b
  if b.state = .stowed then t.setCtl (t.ctl.removeRecovering (sourceOf (countedOf c))) else t

/-! ### Stage 1 (R26) -/

/-- What the condition met at a step does to a channel whose timings have been taken (R29 to R48). -/
def State.applyBrush (s : State) (c : Chan) (cause : BrushCause) : State :=
  let i := s.brushIn c
  let b := (s.brush c).tick i
  match cause with
  | .none => s.setBrush c (if b.state.working then b.adjustCeiling i else b)
  | .called => s.setBrush c (b.enterDescending i)
  | .resumed => s.setBrush c (b.enterDescending i)
  | .contact => s.setBrush c (b.adjustCeiling i).makeContact
  | .lost => s.setBrush c (b.loseContact i)
  | .released => s.setBrushAndRecord c (b.enterRaisingAtStep i false)
  | .starved => s.setBrushAndRecord c (b.enterRaisingAtStep i true)
  | .waitingReleased => s.setBrushAndRecord c { b.stopTimers with state := .stowed, starved := false }
  | .spinDownEnd => s.setBrushAndRecord c (b.endSpinDown i)
  | .armUp => s.setBrushAndRecord c b.arrived
  | .recoveryEnd =>
    let t := s.setCtl (s.ctl.makeRecovering (sourceOf (countedOf c)))
    if s.supplyLow then t.setBrush c { b.motorOff with state := .held, starved := false }
    else t.setBrushAndRecord c (b.enterRaisingAtStep i false)
  | .overrunOnset => s.setBrush c ((b.adjustCeiling i).startOverrun s.now s.overrunCapNow)
  | .overrunClear => s.setBrush c (b.adjustCeiling i).endOverrun
  | .descendTimeout => s.brushFault c .noContact
  | .raiseTimeout => s.brushFault c .raiseTimeout
  | .hardLimit => s.brushFault c .overpressure
  | .trip => s.brushFault c .overpressure
  | .stall => s.brushFault c .stall
  | .sensor => s.brushFault c .sensor
  | .overrunStanding => s.brushFault c .overrun

/-- The cap contributions a channel evaluates at each step besides the overrun's (R52). -/
def State.armContributions (s : State) (c : Chan) : State :=
  let b := s.brush c
  let down := !armUpOf s.pins c
  let transport := if s.ctl.mode == .transport && down then some s.cfg.drive.sweepCap else none
  let afterFault := if (b.state == .fault || b.state == .latched) && down then some s.creepCap else none
  match c with
  | .c0 => s.setCtl
      { s.ctl with contrib := { s.ctl.contrib with transport0 := transport, afterFault0 := afterFault } }
  | .c1 => s.setCtl
      { s.ctl with contrib := { s.ctl.contrib with transport1 := transport, afterFault1 := afterFault } }

/-- Stage 1 of one channel; it does not run for a DISABLED one (R26). -/
def State.brushStage1 (s : State) (c : Chan) : State :=
  if s.brushEnabled c then (s.applyBrush c (s.brushCause c)).armContributions c else s

/-- Stage 1 of both channels, in an order the spec leaves open (R26; log 7). -/
def State.brushStage1Both (s : State) (first : Chan) : State :=
  (s.brushStage1 first).brushStage1 (otherChan first)

/-! ### Stage 3 (R45, R46) -/

/-- The trim update, with the channel's upper bound for its anti-windup (R46). -/
def Brush.trimmed (b : Brush) (cfg : BrushCfg) (granted speed : Nat) : Int :=
  if cfg.pulses = 0 then 0
  else
    let e : Int := (granted : Int) - speed
    let upper : Int := ((min 1000 (b.ceiling.getD 1000) : Nat) : Int)
    if (upper ≤ b.prevDuty ∧ 0 < e) ∨ (b.prevDuty ≤ 0 ∧ e < 0) then b.trim
    else clampInt (-10000) 10000 (b.trim + 5 * e)

/-- The motor duty of a working channel from its granted speed (R45, R46). A granted speed of 0 leaves the previous unclamped duty
as it was (DESIGN CHOICE, log 45). -/
def Brush.motorStep (b : Brush) (cfg : BrushCfg) (granted speed : Nat) : Brush :=
  if granted = 0 then { b with lastDuty := 0 }
  else
    let t := b.trimmed cfg granted speed
    let raw : Int := ((cfg.valveOffset + granted * cfg.valveGain / 100 : Nat) : Int) + trunc t 100
    let duty := (clampInt 0 1000 raw).toNat
    { b with trim := t, prevDuty := raw, lastDuty := min duty (b.ceiling.getD duty) }

/-- Stage 3 of one channel: the duty of a working channel, 0 in every other state (R45). -/
def State.brushStage3 (s : State) (c : Chan) : State :=
  let b := s.brush c
  if b.state.working then
    s.setBrush c (b.motorStep (s.cfg.brush c) (s.ration.share c).granted (s.capture.input (pickupOf c)).rate)
  else if b.state = .disabled then s
  else s.setBrush c { b with lastDuty := 0 }

/-- The brush step runs from the end of the load, in every mode but STANDBY (R26, R55, R56). -/
def State.brushStepRuns (s : State) : Bool := s.loaded && s.ctl.mode != .standby

/-- The brush step: stage 1 of both channels, the ration step, stage 3 of both (R26). -/
def State.brushStep (first : Chan) (s : State) : State :=
  (((s.brushStage1Both first).rationStep).brushStage3 .c0).brushStage3 .c1

/-- The condition met by a channel at its turn in this brush step. -/
def State.brushCauseAtStep (s : State) (first c : Chan) : BrushCause :=
  if c = first then s.brushCause c else (s.brushStage1 first).brushCause c

/-! ### Events from other blocks -/

/-- A channel takes a COIL_OPEN or COIL_SHORT report for its motor valve (R50). -/
def State.brushCoilReport (s : State) (c : Chan) (code : FaultCode) : State :=
  match (s.brush c).state with
  | .stowed | .descending | .sweeping | .raising | .waiting => s.brushFault c code
  | .disabled | .held | .fault | .latched => s

/-- A channel takes the start of a SUPPLY condition (R51). -/
def State.brushSupplyStart (s : State) (c : Chan) : State :=
  match (s.brush c).state with
  | .stowed | .descending | .sweeping | .raising | .waiting =>
    s.setBrush c { (s.brush c).motorOff with state := .held, starved := false }
  | .disabled | .held | .fault | .latched => s

/-- A channel takes the release of a SUPPLY condition: RAISING with its arm down, STOWED with it up (R51). -/
def State.brushSupplyRelease (s : State) (c : Chan) : State :=
  if (s.brush c).state = .held then
    if armUpOf s.pins c then s.setBrushAndRecord c { (s.brush c).motorOff with state := .stowed, starved := false }
    else s.setBrush c ((s.brush c).enterRaising s.now false)
  else s

/-- The channel's test at a CLEAR (R49). -/
def State.brushClearPasses (s : State) (c : Chan) : Bool :=
  let i := s.brushIn c
  match (s.ctl.record (sourceOf (countedOf c))).map Record.code with
  | some FaultCode.overpressure | some FaultCode.stall => i.usable && decide (i.pressure ≤ i.cfg.pLim)
  | some FaultCode.sensor => i.usable
  | _ => true

/-- A channel takes a CLEAR: with its record LATCHED and its test passed the record goes, the count is 0, and the channel
raises, or is HELD during a SUPPLY condition (R49). -/
def State.brushClear (s : State) (c : Chan) : State :=
  let src := sourceOf (countedOf c)
  if s.ctl.recordState src = some .latched ∧ s.brushClearPasses c then
    let t := s.setCtl ((s.ctl.dropRecord src).zeroCount (countedOf c))
    if (s.brush c).state = .latched then
      if s.supplyLow then t.setBrush c { (s.brush c).motorOff with state := .held, starved := false }
      else t.setBrush c ((s.brush c).enterRaising s.now false)
    else t
  else s

/-- A channel at STANDBY entry (R54): STOWED, or its LATCHED or DISABLED state kept, and its contributions withdrawn. -/
def State.brushStandby (s : State) (c : Chan) : State :=
  let b := s.brush c
  let t := s.setBrush c
    { b.motorOff with
      starved := false
      state := match b.state with
        | .latched => .latched
        | .disabled => .disabled
        | .stowed | .descending | .sweeping | .raising | .waiting | .held | .fault => .stowed }
  match c with
  | .c0 => t.setCtl { t.ctl with contrib := { t.ctl.contrib with transport0 := none, afterFault0 := none } }
  | .c1 => t.setCtl { t.ctl with contrib := { t.ctl.contrib with transport1 := none, afterFault1 := none } }

end Sys2Proof.Machine
end

