-- ==== Sys2Proof/Machine/Spray.lean ====
section
/-! DEFINITION. The spray channel (04): the wanted groups, the spray step's four stages, and the events from other blocks that
the channel takes. -/

namespace Sys2Proof.Machine

/-! ### Stage 1: tank and wanted set (R72, R81) -/

/-- The tank sender reads outside its range (R81, R84). -/
def State.tankOut (s : State) : Bool := s.conv.tank.status == .outOfRange

/-- The tank level that a converted value gives (R154). -/
def tankLevel (value : Nat) : Nat := value * 100 / 4096

/-- Is a brush that a nozzle group's reference names sweeping? (R72): NONE 0, LOCAL 1, PEER 2. -/
def State.referenceSweeps (s : State) (g : GroupCfg) : Bool :=
  match g.kind with
  | 0 => true
  | 1 => (if g.channel = 0 then s.brush0.state else s.brush1.state) == .sweeping
  | _ => (s.peerBrush g.station g.channel).any fun r => r.state == BrushState.sweeping.code

/-- The wanted set, formed afresh: the enabled groups whose reference sweeps, by number (R72). -/
def State.wantedGroups (s : State) : List Nat :=
  ((List.range s.cfg.spray.groups.length).filter fun k =>
    (s.cfg.spray.groups.getD k GroupCfg.blank).enabled == 1 &&
      s.referenceSweeps (s.cfg.spray.groups.getD k GroupCfg.blank)).map (· + 1)

/-- The total width of a set of groups (R72). -/
def widthOf (groups : List GroupCfg) (set : List Nat) : Nat :=
  (set.map fun k => (groups.getD (k - 1) GroupCfg.blank).width).sum

/-- Stage 1 of the spray step: tank level, tank low indication and wanted set (R72, R81). -/
def State.sprayInputs (s : State) : Spray :=
  let level := if s.tankOut then s.spray.level else tankLevel s.conv.tank.value
  { s.spray with
    wanted := s.wantedGroups
    level := level
    tankLow := if s.tankOut then s.spray.tankLow else decide (level < s.cfg.spray.tankLow) }

/-! ### Stage 2: timings and transitions -/

/-- PRIMING, SPRAYING or PAUSED. -/
def SprayState.working : SprayState → Bool
  | .priming | .spraying | .paused => true
  | .disabled | .off | .empty | .held | .fault | .latched => false

/-- What a spray step reads besides the channel's own state. -/
structure SprayIn where
  now    : Micros
  cfg    : SprayCfg
  called : Bool
  sweep  : Bool
  out    : Bool
  pace   : PaceView
  flow   : Nat
  low    : Bool
  deriving DecidableEq, Repr

/-- The inputs of the spray step. -/
def State.sprayIn (s : State) : SprayIn :=
  { now := s.now, cfg := s.cfg.spray, called := s.sprayCalled, sweep := s.ctl.mode == .sweep, out := s.tankOut,
    pace := s.paceView, flow := s.capture.flow.rate, low := s.supplyLow }

/-- The pace view is known or held with |v| of 50 or more (R77, R80). -/
def SprayIn.moving (i : SprayIn) : Bool := i.pace.magnitude.any fun v => decide (50 ≤ v)

/-- The pace view is known or held with |v| below 30 (R79). -/
def SprayIn.slow (i : SprayIn) : Bool := i.pace.magnitude.any fun v => decide (v < 30)

/-- The timings "for t" of the channel at this step (R77 to R83), taken in the state that the step finds: a step that enters OFF
starts no tank low timing, and one that enters SPRAYING no standstill or dry-run timing (DESIGN CHOICE, log 47). -/
def Spray.tick (x : Spray) (i : SprayIn) : Spray :=
  let lowCounts := (x.state == .off && i.called) || x.state.working
  let spraying := x.state == .spraying
  { x with
    tankLowTimer := runWhile (lowCounts && !i.out && x.tankLow) x.tankLowTimer i.now
    refillTimer := runWhile (x.state == .empty && !i.out && decide (i.cfg.tankLow + 5 ≤ x.level)) x.refillTimer i.now
    standstillTimer := runWhile (spraying && i.slow) x.standstillTimer i.now
    dryRunTimer := runWhile (spraying && decide (i.flow * 4 < x.target) && decide (200 ≤ x.lastDuty)) x.dryRunTimer i.now }

/-- The condition that a spray step meets: the first row of its state's table that is met, or none. -/
inductive SprayCause where
  | none
  | released
  | unwanted
  | sensor
  | dryRun
  | tankLowEmpty
  | prime
  | primeEndPaused
  | primeEndSpraying
  | paceUnknown
  | standstill
  | resume
  | refilled
  | modeExit
  | recoveryEnd
  deriving DecidableEq, Repr

/-- The tank low indication has held for 5000 ms (R77 to R81). -/
def Spray.lowMet (x : Spray) (i : SprayIn) : Bool := ranFor x.tankLowTimer i.now (ms 5000)

/-- What an OFF channel's step meets, in the order of R77. -/
def Spray.offCause (x : Spray) (i : SprayIn) : SprayCause :=
  if !i.called then .none
  else if i.out then .sensor
  else if x.lowMet i then .tankLowEmpty
  else if !x.tankLow && !x.wanted.isEmpty && i.moving then .prime
  else .none

/-- What a PRIMING channel's step meets, in the order of the table of R78. -/
def Spray.primingCause (x : Spray) (i : SprayIn) : SprayCause :=
  if !i.called then .released
  else if x.wanted.isEmpty then .unwanted
  else if i.out then .sensor
  else if x.lowMet i then .tankLowEmpty
  else if ranFor x.primeTimer i.now (ms i.cfg.primeTime) then
    (if i.pace.magnitude.isNone then .primeEndPaused else .primeEndSpraying)
  else .none

/-- What a SPRAYING channel's step meets, in the order of the table of R79. -/
def Spray.sprayingCause (x : Spray) (i : SprayIn) : SprayCause :=
  if !i.called then .released
  else if i.out then .sensor
  else if ranFor x.dryRunTimer i.now (ms 3000) then .dryRun
  else if x.lowMet i then .tankLowEmpty
  else if x.wanted.isEmpty then .unwanted
  else if i.pace.magnitude.isNone then .paceUnknown
  else if ranFor x.standstillTimer i.now (ms i.cfg.standstillHold) then .standstill
  else .none

/-- What a PAUSED channel's step meets, in the order of the table of R80. -/
def Spray.pausedCause (x : Spray) (i : SprayIn) : SprayCause :=
  if !i.called then .released
  else if i.out then .sensor
  else if x.lowMet i then .tankLowEmpty
  else if !x.wanted.isEmpty && i.moving then .resume
  else .none

/-- What the step meets, with the timings already taken (R77 to R86). -/
def Spray.cause (x : Spray) (i : SprayIn) : SprayCause :=
  match x.state with
  | .off => x.offCause i
  | .priming => x.primingCause i
  | .spraying => x.sprayingCause i
  | .paused => x.pausedCause i
  | .empty =>
    if ranFor x.refillTimer i.now (ms 5000) then .refilled
    else if !i.sweep then .modeExit
    else .none
  | .fault => if ranFor x.recoveryTimer i.now (ms 10000) then .recoveryEnd else .none
  | .disabled | .held | .latched => .none

/-- What this spray step meets. -/
def State.sprayCause (s : State) : SprayCause := (s.sprayInputs.tick s.sprayIn).cause s.sprayIn

/-- Every timer stopped. -/
def Spray.stopTimers (x : Spray) : Spray :=
  { x with
    primeTimer := none, standstillTimer := none, tankLowTimer := none, refillTimer := none, dryRunTimer := none,
    recoveryTimer := none }

/-- The pump at 0 and the groups closed at an entry to a state other than PRIMING and SPRAYING (R73, R75). -/
def Spray.closed (x : Spray) : Spray :=
  { x with
    opened := [], prevDuty := 0, lastDuty := 0, target := 0, primeTimer := none, standstillTimer := none,
    dryRunTimer := none }

/-- Entry to OFF: closed, with T at 0 (R76). The fault code stays what it was (DESIGN CHOICE, log 48), and the tank low timing
starts at the next step (DESIGN CHOICE, log 47). -/
def Spray.toOff (x : Spray) : Spray := { x.closed with state := .off, trim := 0 }

/-- Entry to EMPTY (R81). -/
def Spray.toEmpty (x : Spray) : Spray := { x.closed.stopTimers with state := .empty, trim := 0 }

/-- Entry to PAUSED, keeping T (R76, R80). -/
def Spray.toPaused (x : Spray) : Spray := { x.closed with state := .paused }

/-- Entry to SPRAYING: the standstill and dry-run timers start from stopped (R80, R83), at the step after the entry, from PRIMING
as from PAUSED (DESIGN CHOICE, log 47). -/
def Spray.toSpraying (x : Spray) : Spray :=
  { x with state := .spraying, primeTimer := none, standstillTimer := none, dryRunTimer := none }

/-- Entry to PRIMING (R77). -/
def Spray.toPriming (x : Spray) (now : Micros) : Spray :=
  { x with state := .priming, primeTimer := some now, tankLowTimer := none }

/-- Entry to HELD (R86, R87, R89). -/
def Spray.toHeld (x : Spray) : Spray := { x.closed.stopTimers with state := .held, trim := 0 }

/-- Entry to FAULT or LATCHED with a code; FAULT starts the recovery delay (R85, R86). -/
def Spray.toFault (x : Spray) (now : Micros) (code : FaultCode) (st : RecordState) : Spray :=
  { x.closed.stopTimers with
    state := if st = .active then .fault else .latched, trim := 0, code := some code,
    recoveryTimer := if st = .active then some now else none }

/-- Post a spray fault by the common latching rule and enter FAULT or LATCHED as it says (R85). -/
def State.sprayFault (s : State) (x : Spray) (code : FaultCode) : State :=
  let (ctl, st) := s.ctl.post s.now .spray code
  (s.setCtl ctl).setSpray (x.toFault s.now code st)

/-- The RECOVERING SPRAY record is removed (R86). -/
def State.removeSprayRecovering (s : State) : State := s.setCtl (s.ctl.removeRecovering .spray)

/-- Stages 1 and 2 of the spray step: what the condition met does (R77 to R86). -/
def State.applySpray (s : State) (cause : SprayCause) : State :=
  let x := s.sprayInputs.tick s.sprayIn
  match cause with
  | .none =>
    if x.state = .off ∧ ¬ s.sprayCalled then (s.setSpray x).removeSprayRecovering else s.setSpray x
  | .released => s.setSpray { x.toOff with tankLowTimer := none }
  | .unwanted => s.setSpray (if x.state = .priming then x.toOff else x.toPaused)
  | .sensor => s.sprayFault x .sensor
  | .dryRun => s.sprayFault x .dryRun
  | .tankLowEmpty => (s.setSpray x.toEmpty).removeSprayRecovering
  | .prime => s.setSpray (x.toPriming s.now)
  | .primeEndPaused => s.setSpray x.toPaused
  | .primeEndSpraying => (s.setSpray x.toSpraying).removeSprayRecovering
  | .paceUnknown => s.setSpray x.toPaused
  | .standstill => s.setSpray x.toPaused
  | .resume => (s.setSpray x.toSpraying).removeSprayRecovering
  | .refilled => s.setSpray { x.toOff with refillTimer := none }
  | .modeExit => s.setSpray { x.toOff with refillTimer := none }
  | .recoveryEnd =>
    let t := s.setCtl (s.ctl.makeRecovering .spray)
    if s.supplyLow then t.setSpray x.toHeld else t.setSpray { x.toOff with recoveryTimer := none }

/-! ### Stage 3: flow target, trim and pump duty (R74 to R76) -/

/-- The flow target for a state, wanted set and pace (R74). -/
def flowTarget (cfg : SprayCfg) (state : SprayState) (rate : Nat) (wanted : List Nat) (pace : PaceView) : Nat :=
  match state with
  | .spraying =>
    min cfg.qMax (max cfg.qMin (min 60000 (rate * widthOf cfg.groups wanted * pace.magnitude.getD 0 / 600)))
  | .priming => min cfg.qMax cfg.qMin
  | .disabled | .off | .paused | .empty | .held | .fault | .latched => 0

/-- The trim update of a step in SPRAYING (R76). -/
def Spray.trimmed (x : Spray) (target flow : Nat) : Int :=
  let e : Int := (target : Int) - flow
  if (1000 ≤ x.prevDuty ∧ 0 < e) ∨ (x.prevDuty ≤ 0 ∧ e < 0) then x.trim
  else clampInt (-15000) 15000 (x.trim + trunc e 10)

/-- The pump duty for a target, and the channel as it keeps it (R75, R76). A target of 0 leaves the previous unclamped duty as it
was (DESIGN CHOICE, log 45). -/
def Spray.pumpStep (x : Spray) (cfg : SprayCfg) (target flow : Nat) : Spray :=
  let t := if x.state = .spraying then x.trimmed target flow else x.trim
  if target = 0 then { x with target := 0, trim := t, lastDuty := 0 }
  else
    let raw : Int := ((cfg.pumpOffset + target * cfg.pumpGain / 10000 : Nat) : Int) + trunc t 100
    { x with target := target, trim := t, prevDuty := raw, lastDuty := (clampInt 0 1000 raw).toNat }

/-- The open set: the wanted set in PRIMING and SPRAYING, empty in every other state (R73). -/
def Spray.openSet (x : Spray) : List Nat :=
  if x.state = .priming ∨ x.state = .spraying then x.wanted else []

/-- Stages 3 and 4 of the spray step: the figures, and the outputs written from them (R73 to R76). -/
def State.sprayOutputs (s : State) : State :=
  let x := s.spray
  let q := flowTarget s.cfg.spray x.state s.ctl.sprayRate x.wanted s.paceView
  let y := x.pumpStep s.cfg.spray q s.capture.flow.rate
  s.setSpray { y with opened := y.openSet }

/-- The spray step runs: not in DISABLED, not in STANDBY (R70). -/
def State.sprayStepRuns (s : State) : Bool := s.spray.state != .disabled && s.ctl.mode != .standby

/-- The spray step (R70). -/
def State.sprayStep (s : State) : State := (s.applySpray s.sprayCause).sprayOutputs

/-! ### Events from other blocks -/

/-- OFF, PRIMING, SPRAYING, PAUSED or EMPTY: the states in which a fault is detected and a SUPPLY condition holds the channel
(R85, R88, R89). -/
def SprayState.live : SprayState → Bool
  | .off | .priming | .spraying | .paused | .empty => true
  | .disabled | .held | .fault | .latched => false

/-- The channel takes a COIL_OPEN or COIL_SHORT report for PUMP (R88). -/
def State.sprayCoilReport (s : State) (code : FaultCode) : State :=
  if s.spray.state.live then s.sprayFault s.spray code else s

/-- The channel takes the start of a SUPPLY condition (R89). -/
def State.spraySupplyStart (s : State) : State :=
  if s.spray.state.live then s.setSpray s.spray.toHeld else s

/-- The channel takes the release of a SUPPLY condition (R89). -/
def State.spraySupplyRelease (s : State) : State :=
  if s.spray.state = .held then s.setSpray s.spray.toOff else s

/-- The channel's test at a CLEAR (R87). -/
def State.sprayClearPasses (s : State) : Bool :=
  match (s.ctl.record .spray).map Record.code with
  | some FaultCode.sensor => s.conv.tank.status == .valid
  | _ => true

/-- The channel takes a CLEAR: with its record LATCHED and its test passed the record goes, the count is 0, and it enters OFF,
or HELD during a SUPPLY condition (R87). -/
def State.sprayClear (s : State) : State :=
  if s.ctl.recordState .spray = some .latched ∧ s.sprayClearPasses then
    let t := s.setCtl ((s.ctl.dropRecord .spray).zeroCount .spray)
    if s.spray.state = .latched then
      (if s.supplyLow then t.setSpray s.spray.toHeld else t.setSpray s.spray.toOff)
    else t
  else s

/-- The channel at STANDBY entry (R90): OFF, or its LATCHED or DISABLED state kept. -/
def State.sprayStandby (s : State) : State :=
  let x := s.spray
  s.setSpray
    { x.closed.stopTimers with
      wanted := [], trim := 0
      state := match x.state with
        | .latched => .latched
        | .disabled => .disabled
        | .off | .priming | .spraying | .paused | .empty | .held | .fault => .off }

end Sys2Proof.Machine
end

