-- ==== Sys2Proof/Machine/Supply.lean ====
section
/-! DEFINITION. The supply monitor (09, section 9.5) and the notices of the start and the release of a SUPPLY condition. -/

namespace Sys2Proof.Machine

/-- The start level of the system voltage (R161). -/
def startLevel (voltage : Nat) : Nat := if voltage = 0 then 850 else 1700

/-- The release level of the system voltage (R161). -/
def releaseLevel (voltage : Nat) : Nat := if voltage = 0 then 900 else 1800

/-- What a conversion of SUPPLY makes of the monitor: the condition and the two timers (R161). -/
def monitor (voltage : Nat) (cond : SupplyCondition) (start release : Timer) (value : Nat) (now : Micros) :
    SupplyCondition × Timer × Timer :=
  match cond with
  | .normal =>
    let t := runWhile (decide (value < startLevel voltage)) start now
    if ranFor t now (ms 50) then (.low, none, none) else (.normal, t, none)
  | .low =>
    let t := runWhile (decide (releaseLevel voltage ≤ value)) release now
    if ranFor t now (ms 200) then (.normal, none, none) else (.low, none, t)

/-- The start notices to the drive, brush and spray channels (R162). -/
def State.startNotices (s : State) : State :=
  (((s.driveSupplyStart).brushSupplyStart .c0).brushSupplyStart .c1).spraySupplyStart

/-- The release notices to the drive, brush and spray channels (R162). -/
def State.releaseNotices (s : State) : State :=
  (((s.driveSupplyRelease).brushSupplyRelease .c0).brushSupplyRelease .c1).spraySupplyRelease

/-- The mode controller makes an ACTIVE SUPPLY record (R135, R162). -/
def State.makeSupplyRecord (s : State) : State := s.setCtl (s.ctl.putRecord .supply .lowSupply .active)

/-- The monitor's part of a SUPPLY conversion: its condition and timers, and on a start or a release the notices (R161,
R162). -/
def State.superviseSupply (s : State) (value : Nat) : State :=
  let (cond, start, release) :=
    monitor s.cfg.general.voltage s.out.supply s.out.startTimer s.out.releaseTimer value s.now
  let t := s.setOut { s.out with supply := cond, startTimer := start, releaseTimer := release }
  match s.out.supply, cond with
  | .normal, .low => t.startNotices.makeSupplyRecord
  | .low, .normal => let r := t.releaseNotices; r.setCtl (r.ctl.dropRecord .supply)
  | .normal, .normal => t
  | .low, .low => t

/-- The monitor at STANDBY entry: the condition kept, both timers stopped; a SUPPLY conversion that falls together with the
entry still finds the timers as they stood (R163; log 28). -/
def State.supplyStandby (s : State) : State :=
  s.setOut
    { s.out with
      startTimer := none, releaseTimer := none
      late :=
        if s.conv.place = some .supply ∧ s.loaded then
          some { entered := s.now, startTimer := s.out.startTimer, releaseTimer := s.out.releaseTimer }
        else none }

/-- A SUPPLY conversion that fell together with the STANDBY entry may still be taken (R163). -/
def State.lateDue (s : State) : Bool :=
  s.ctl.mode == .standby && s.out.late.any fun l => l.entered == s.now

/-- A SUPPLY conversion taken after the STANDBY entry it fell together with changes the condition, and gives no notices
(R163). -/
def State.superviseLate (s : State) (value : Nat) : State :=
  match s.out.late with
  | none => s
  | some l =>
    let (cond, _, _) := monitor s.cfg.general.voltage s.out.supply l.startTimer l.releaseTimer value s.now
    s.setOut { s.out with supply := cond, late := none }

end Sys2Proof.Machine
end

