-- ==== Sys2Proof/Machine/Converter.lean ====
section
/-! DEFINITION. The converter (08, sections 8.5 to 8.7), the coil diagnosis and the PWM periods of the output stage (09). -/

namespace Sys2Proof.Machine

/-! ### The scan (R148) -/

/-- The next conversion of the scan (R148). -/
def Slot.next : Slot → Slot
  | .pedalA => .pedalB
  | .pedalB => .press0Coarse
  | .press0Coarse => .press0Fine
  | .press0Fine => .press1Coarse
  | .press1Coarse => .press1Fine
  | .press1Fine => .tank
  | .tank => .supply
  | .supply => .senseDF
  | .senseDF => .senseDR
  | .senseDR => .senseB0
  | .senseB0 => .senseB1
  | .senseB1 => .sensePump
  | .sensePump => .pedalA

/-- The kind of a conversion (R148). -/
inductive SlotKind where
  | single | coarse | fine
  deriving DecidableEq, Repr

/-- The kind of each conversion of the scan (R148). -/
def Slot.kind : Slot → SlotKind
  | .press0Coarse | .press1Coarse => .coarse
  | .press0Fine | .press1Fine => .fine
  | .pedalA | .pedalB | .tank | .supply | .senseDF | .senseDR | .senseB0 | .senseB1 | .sensePump => .single

/-- The output whose coil current a conversion senses (09, section 9.4). -/
def Slot.coil : Slot → Option Coil
  | .senseDF => some .driveF
  | .senseDR => some .driveR
  | .senseB0 => some .brush0
  | .senseB1 => some .brush1
  | .sensePump => some .pump
  | .pedalA | .pedalB | .press0Coarse | .press0Fine | .press1Coarse | .press1Fine | .tank | .supply => none

/-- Write the table entry of a conversion, value and status together (R149, R150, R153). A coarse pass writes none. -/
def Converter.write (c : Converter) (k : Slot) (e : Entry) : Converter :=
  match k with
  | .pedalA => { c with pedalA := e }
  | .pedalB => { c with pedalB := e }
  | .press0Fine => { c with press0 := e }
  | .press1Fine => { c with press1 := e }
  | .tank => { c with tank := e }
  | .supply => { c with supply := e }
  | .senseDF => { c with senseDF := e }
  | .senseDR => { c with senseDR := e }
  | .senseB0 => { c with senseB0 := e }
  | .senseB1 => { c with senseB1 := e }
  | .sensePump => { c with sensePump := e }
  | .press0Coarse => c
  | .press1Coarse => c

/-- The range status of a value; a sense input has none (R152). -/
def rangeStatus (k : Slot) (value : Nat) (settling : Bool) : ConvStatus :=
  if k.coil.isSome then .valid
  else if value < 82 ∨ 4013 < value then .outOfRange
  else if settling then .settling
  else .valid

/-- The entry of a single-pass conversion (R149, R152). -/
def singleEntry (k : Slot) (code : Byte) : Entry :=
  { value := code.toNat * 16, status := rangeStatus k (code.toNat * 16) false }

/-- The window's lower boundary that a coarse code chooses (R150). -/
def windowLow (c : Nat) : Nat := min 13 (c / 16 - 1)

/-- The entry of a two-pass conversion (R150 to R152). -/
def fineEntry (k : Slot) (c f : Nat) : Entry :=
  let low := windowLow c
  let settling := decide ((f = 0 ∧ 0 < low) ∨ (f = 255 ∧ low < 13))
  let value := if settling then c * 16 else low * 256 + f * 3
  { value := value, status := rangeStatus k value settling }

/-- The scan goes on to its next conversion. -/
def Converter.advance (c : Converter) : Converter := { c with place := c.place.map Slot.next }

/-- The scan is at a conversion of this kind. -/
def State.atKind (s : State) (k : SlotKind) : Bool := s.conv.place.any fun p => p.kind == k

/-! ### Coil diagnosis (R159, R160) -/

/-- A coil report goes to the owner of the output (R159). -/
def State.coilReport (s : State) (c : Coil) (code : FaultCode) : State :=
  match c with
  | .driveF => s.driveCoilReport code
  | .driveR => s.driveCoilReport code
  | .brush0 => s.brushCoilReport .c0 code
  | .brush1 => s.brushCoilReport .c1 code
  | .pump => s.sprayCoilReport code

/-- The short test of a sense conversion (R159). -/
def State.shortMet (s : State) (c : Coil) (value : Nat) : Bool :=
  let x := s.out.coil c
  decide ((s.cfg.coil c).shortLevel < value) && !s.out.forcing && !x.shortOff && decide (0 < x.duty)

/-- The open timing of a sense conversion (R160). -/
def State.openTiming (s : State) (c : Coil) (value : Nat) : Timer :=
  let x := s.out.coil c
  runWhile
    (decide (value < (s.cfg.coil c).openLevel) && decide (200 ≤ x.duty) && !s.out.forcing && !x.shortOff && x.openArmed)
    x.openTimer s.now

/-- The open condition has held for 200 ms at this conversion, and the coil is not shorted (R159, R160). -/
def State.openMet (s : State) (c : Coil) (value : Nat) : Bool :=
  !s.shortMet c value && ranFor (s.openTiming c value) s.now (ms 200)

/-- The tests of a sense conversion (R159, R160). -/
def State.diagnose (s : State) (c : Coil) (value : Nat) : State :=
  let x := s.out.coil c
  if s.shortMet c value then
    (s.setOut (s.out.setCoil c { x with shortOff := true, openTimer := none })).coilReport c .coilShort
  else if s.openMet c value then
    (s.setOut (s.out.setCoil c { x with openArmed := false, openTimer := none })).coilReport c .coilOpen
  else s.setOut (s.out.setCoil c { x with openTimer := s.openTiming c value })

/-! ### Conversions -/

/-- What follows the writing of a single-pass entry: the coil tests, or the supply monitor from the end of the load on (R159 to
R161). -/
def State.afterSingle (s : State) (k : Slot) (value : Nat) : State :=
  match k.coil with
  | some c => s.diagnose c value
  | none => if k = .supply ∧ s.loaded then s.superviseSupply value else s

/-- A single-pass conversion ends (R149). -/
def State.single (s : State) (code : Byte) : State :=
  match s.conv.place with
  | some k => (s.setConv (s.conv.write k (singleEntry k code)).advance).afterSingle k (code.toNat * 16)
  | none => s

/-- A single-pass conversion ends in the scan, or is the SUPPLY conversion that fell together with the STANDBY entry (R149,
R163). -/
def State.singleOrLate (s : State) (code : Byte) : State :=
  if s.lateDue then s.superviseLate (code.toNat * 16) else s.single code

/-- A coarse pass ends: its code is held for the fine pass (R150). -/
def State.coarse (s : State) (code : Byte) : State :=
  s.setConv { s.conv.advance with coarse := some code.toNat }

/-- A fine pass ends: the entry is written (R150 to R152). -/
def State.fine (s : State) (code : Byte) : State :=
  match s.conv.place with
  | some k =>
    s.setConv { (s.conv.write k (fineEntry k (s.conv.coarse.getD 0) code.toNat)).advance with coarse := none }
  | none => s

/-- The next conversion senses a coil whose open condition this code completes (R160). -/
def State.openDue (s : State) (code : Byte) : Bool :=
  match s.conv.place.bind Slot.coil with
  | some c => s.openMet c (code.toNat * 16)
  | none => false

/-- The condition that this SUPPLY conversion would leave, in the scan or late (R161, R163). -/
def State.supplyAfter (s : State) (code : Byte) : SupplyCondition :=
  if s.lateDue then (s.superviseLate (code.toNat * 16)).out.supply
  else if s.conv.place = some .supply ∧ s.loaded then
    (monitor s.cfg.general.voltage s.out.supply s.out.startTimer s.out.releaseTimer (code.toNat * 16) s.now).1
  else s.out.supply

/-! ### PWM periods (R156, R158 to R160) -/

/-- The present PWM period of an output has run out (R156; log 39). -/
def State.pwmDue (s : State) (c : Coil) : Bool :=
  ranFor (s.out.coil c).start s.now ((s.cfg.coil c).period * 100)

/-- An output at its period start: the active duty is loaded, a short-off mark ends with a duty of 0, the open test is armed
below 200, and the output runs unless forcing holds it (R156, R158 to R160). -/
def CoilOut.periodStart (x : CoilOut) (now : Micros) (forcing : Bool) : CoilOut :=
  { x with
    duty := x.shadow
    shortOff := x.shortOff && x.shadow != 0
    openArmed := x.openArmed || decide (x.shadow < 200)
    start := some now
    running := !forcing }

/-- A period start and its notice to the owner (R10, R156). -/
def State.pwmStart (s : State) (c : Coil) : State :=
  (s.setOut (s.out.setCoil c ((s.out.coil c).periodStart s.now s.out.forcing))).drivePeriodStart c

end Sys2Proof.Machine
end

