-- ==== Sys2Proof/Machine/ConfigBlock.lean ====
section
/-! DEFINITION. The configuration block (11, section 11.4): its fields by their offsets, the clamping of R168, the schedule
check of R169, and its CRC (R174). -/

namespace Sys2Proof.Machine

/-! ### The fields as stored -/

/-- One field byte. -/
def u8 (l : List Byte) (k : Nat) : Nat := (l.getD k 0#8).toNat

/-- A field of two bytes, high byte first. -/
def u16 (l : List Byte) (k : Nat) : Nat := ofWord (l.getD k 0#8) (l.getD (k + 1) 0#8)

/-- A 12-bit field: the low 12 bits of its two bytes. -/
def u12 (l : List Byte) (k : Nat) : Nat := u16 l k % 4096

/-- The general record. -/
def rawGeneral (l : List Byte) : GeneralCfg :=
  { periodCode := u8 l 0
    expected := (List.range 16).filter fun n => bitOf (u16 l 1) n
    staleCap := u16 l 3, warmup := u16 l 5, voltage := u8 l 7, fallbackBudget := u16 l 8 }

/-- The drive record. -/
def rawDrive (l : List Byte) : DriveCfg :=
  { enable := u8 l 10, tooth := u16 l 11, transportCap := u16 l 13, sweepCap := u16 l 15, reverseRatio := u8 l 17,
    aUp := u8 l 18, aDn := u8 l 19, aStop := u8 l 20, kp := u16 l 21, ki := u8 l 23, iMax := u16 l 24, uMin := u16 l 26,
    paceFull := u16 l 28, creepDuty := u16 l 30, aLo := u12 l 32, aHi := u12 l 34, bLo := u12 l 36, bHi := u12 l 38,
    tolerance := u8 l 40, deadLo := u8 l 41, deadHi := u16 l 42, enginePulses := u8 l 44, va := u8 l 45,
    etaA := u16 l 46, boostThreshold := u16 l 48, boostHold := u16 l 50, wheelTimeout := u16 l 52,
    engineTimeout := u16 l 54 }

/-- A brush channel's record at its first offset. -/
def rawBrush (l : List Byte) (o : Nat) : BrushCfg :=
  { enable := u8 l o, contactMode := u8 l (o + 1), limitMode := u8 l (o + 2), vm := u16 l (o + 3), etaM := u16 l (o + 5),
    blindRpm := u16 l (o + 7), contactLevel := u16 l (o + 9), lossLevel := u16 l (o + 11), tContact := u16 l (o + 13),
    tLoss := u16 l (o + 15), descendTimeout := u16 l (o + 17), raiseTimeout := u16 l (o + 19), spinDown := u16 l (o + 21),
    pLim := u16 l (o + 23), tTrip := u16 l (o + 25), tHoldMax := u16 l (o + 27), valveOffset := u16 l (o + 29),
    valveGain := u16 l (o + 31), pulses := u8 l (o + 33), span := u16 l (o + 34), zeroTimeout := u16 l (o + 36),
    pointCount := u8 l (o + 38)
    points := [0, 1, 2, 3, 4, 5].map fun k => (u16 l (o + 39 + 4 * k), u16 l (o + 41 + 4 * k)) }

/-- A nozzle group's entry at its first offset; the reference byte holds kind, station and channel. -/
def rawGroup (l : List Byte) (o : Nat) : GroupCfg :=
  let r := u8 l (o + 3)
  { enabled := u8 l o, width := u16 l (o + 1), kind := field r 6 2, station := field r 2 4, channel := field r 0 2 }

/-- The spray record. -/
def rawSpray (l : List Byte) : SprayCfg :=
  { enable := u8 l 182, rate := u8 l 183, drySweep := u8 l 184, dustCap := u16 l 185, qMin := u16 l 187, qMax := u16 l 189,
    pumpOffset := u16 l 191, pumpGain := u16 l 193, pulsesPerLitre := u16 l 195, tankLow := u8 l 197,
    standstillHold := u16 l 198, primeTime := u16 l 200, flowTimeout := u16 l 202
    groups := [204, 208, 212, 216].map (rawGroup l) }

/-- A proportional output's record at its first offset. -/
def rawCoil (l : List Byte) (o : Nat) : CoilCfg :=
  { period := u8 l o, openLevel := u12 l (o + 1), shortLevel := u12 l (o + 3) }

/-- The block's fields as stored. -/
def rawImage (l : List Byte) : Image :=
  { general := rawGeneral l, drive := rawDrive l, brush0 := rawBrush l 56, brush1 := rawBrush l 119, spray := rawSpray l,
    driveF := rawCoil l 220, driveR := rawCoil l 225, valve0 := rawCoil l 230, valve1 := rawCoil l 235,
    pump := rawCoil l 240 }

/-! ### Clamping (R168) -/

/-- The general record in range. -/
def GeneralCfg.clamp (g : GeneralCfg) : GeneralCfg :=
  { periodCode := clampNat 1 5 g.periodCode
    expected := g.expected.filter fun n => 1 ≤ n && n ≤ 14
    staleCap := min g.staleCap 1000, warmup := clampNat 500 10000 g.warmup, voltage := min g.voltage 1,
    fallbackBudget := min g.fallbackBudget 2000 }

/-- The drive record in range; the pedal calibration is taken as stored. The caps and the creep duty take the ranges of the
units table (log 13). -/
def DriveCfg.clamp (d : DriveCfg) : DriveCfg :=
  { d with
    enable := min d.enable 1, tooth := clampNat 1000 60000 d.tooth, transportCap := min d.transportCap 4000,
    sweepCap := min d.sweepCap 4000, reverseRatio := clampNat 25 100 d.reverseRatio, aUp := clampNat 1 50 d.aUp,
    aDn := clampNat 1 100 d.aDn, aStop := clampNat 10 200 d.aStop, kp := min d.kp 500, ki := min d.ki 200,
    iMax := min d.iMax 300, uMin := min d.uMin 400, paceFull := clampNat 1000 4000 d.paceFull,
    creepDuty := min d.creepDuty 1000, tolerance := clampNat 20 200 d.tolerance, deadLo := min d.deadLo 200,
    deadHi := clampNat 800 1000 d.deadHi, enginePulses := clampNat 1 200 d.enginePulses, va := clampNat 5 100 d.va,
    etaA := clampNat 500 1000 d.etaA, boostThreshold := clampNat 700 1000 d.boostThreshold,
    boostHold := clampNat 1000 10000 d.boostHold, wheelTimeout := clampNat 100 1000 d.wheelTimeout,
    engineTimeout := clampNat 100 1000 d.engineTimeout }

/-- A brush channel's record in range; all six points, used or not (log 14). -/
def BrushCfg.clamp (b : BrushCfg) : BrushCfg :=
  { enable := min b.enable 1, contactMode := min b.contactMode 2, limitMode := min b.limitMode 1,
    vm := clampNat 50 500 b.vm, etaM := clampNat 500 1000 b.etaM, blindRpm := min b.blindRpm 600,
    contactLevel := min b.contactLevel 2500, lossLevel := min b.lossLevel 2500, tContact := clampNat 50 500 b.tContact,
    tLoss := clampNat 200 2000 b.tLoss, descendTimeout := clampNat 1000 10000 b.descendTimeout,
    raiseTimeout := clampNat 1000 10000 b.raiseTimeout, spinDown := min b.spinDown 3000,
    pLim := clampNat 200 3000 b.pLim, tTrip := clampNat 50 1000 b.tTrip, tHoldMax := clampNat 1000 20000 b.tHoldMax,
    valveOffset := min b.valveOffset 500, valveGain := clampNat 10 1000 b.valveGain, pulses := min b.pulses 60,
    span := clampNat 1000 4000 b.span, zeroTimeout := clampNat 100 1000 b.zeroTimeout,
    pointCount := clampNat 2 6 b.pointCount, points := b.points.map fun p => (min p.1 4000, min p.2 600) }

/-- A nozzle group's entry in range: the station of a PEER reference, the channel of a PEER or LOCAL one. -/
def GroupCfg.clamp (g : GroupCfg) : GroupCfg :=
  let kind := min g.kind 2
  { enabled := min g.enabled 1, width := clampNat 20 300 g.width, kind := kind
    station := if kind = 2 then clampNat 1 14 g.station else g.station
    channel := if kind = 0 then g.channel else min g.channel 1 }

/-- The spray record in range. -/
def SprayCfg.clamp (x : SprayCfg) : SprayCfg :=
  { enable := min x.enable 1, rate := clampNat 5 100 x.rate, drySweep := min x.drySweep 1, dustCap := min x.dustCap 2000,
    qMin := clampNat 500 5000 x.qMin, qMax := clampNat 2000 60000 x.qMax, pumpOffset := min x.pumpOffset 400,
    pumpGain := clampNat 10 1000 x.pumpGain, pulsesPerLitre := clampNat 100 2000 x.pulsesPerLitre,
    tankLow := min x.tankLow 50, standstillHold := min x.standstillHold 10000, primeTime := clampNat 500 5000 x.primeTime,
    flowTimeout := clampNat 100 1000 x.flowTimeout, groups := x.groups.map GroupCfg.clamp }

/-- A proportional output's record in range; the thresholds are taken as stored. -/
def CoilCfg.clamp (c : CoilCfg) : CoilCfg := { c with period := clampNat 25 100 c.period }

/-- Every field of the block in range (R168). -/
def Image.clamp (i : Image) : Image :=
  { general := i.general.clamp, drive := i.drive.clamp, brush0 := i.brush0.clamp, brush1 := i.brush1.clamp,
    spray := i.spray.clamp, driveF := i.driveF.clamp, driveR := i.driveR.clamp, valve0 := i.valve0.clamp,
    valve1 := i.valve1.clamp, pump := i.pump.clamp }

/-! ### Schedule check (R169) -/

/-- The points that follow a kept point of pace `x`, up to the first whose pace is not greater than the one before it. -/
def ascending : Nat → List (Nat × Nat) → List (Nat × Nat)
  | _, [] => []
  | x, p :: rest => if x < p.1 then p :: ascending p.1 rest else []

/-- The schedule that a list of points keeps: the first point taken at pace 0, then the ascending ones. -/
def keptPoints : List (Nat × Nat) → List (Nat × Nat)
  | [] => []
  | p :: rest => (0, p.2) :: ascending 0 rest

/-- The points a channel's record uses, of the six it holds. -/
def BrushCfg.used (b : BrushCfg) : List (Nat × Nat) := b.points.take b.pointCount

/-- The schedule of a channel after its check: an enabled channel keeps its ascending points, and is taken as not enabled with
fewer than two of them. -/
def BrushCfg.checked (b : BrushCfg) : BrushCfg :=
  if b.enable = 1 then
    let kept := keptPoints b.used
    { b with enable := if 2 ≤ kept.length then 1 else 0, points := kept }
  else { b with points := b.used }

/-- The check changed the schedule of an enabled channel. -/
def BrushCfg.cut (b : BrushCfg) : Bool := b.enable == 1 && keptPoints b.used != b.used

/-- An enabled channel keeps fewer than two points. -/
def BrushCfg.short (b : BrushCfg) : Bool := b.enable == 1 && decide ((keptPoints b.used).length < 2)

/-- The image with both schedules checked. -/
def Image.checked (i : Image) : Image := { i with brush0 := i.brush0.checked, brush1 := i.brush1.checked }

/-- The image that a block's fields give (R168, R169). -/
def loadImage (l : List Byte) : Image := (rawImage l).clamp.checked

/-- At least one field was brought into range or one schedule changed (R168, R169). -/
def loadClamped (l : List Byte) : Bool :=
  (rawImage l).clamp != rawImage l || (rawImage l).clamp.brush0.cut || (rawImage l).clamp.brush1.cut

/-- A channel's schedule came out short (R169). -/
def loadShort (l : List Byte) : Bool := (rawImage l).clamp.brush0.short || (rawImage l).clamp.brush1.short

/-- The block's CRC matches: it covers the marker, the length and the field bytes, and the two bytes that follow are taken high
byte first (R167, R174). -/
def blockCrcMatches (l : List Byte) (high low : Byte) : Bool :=
  (crc16 (([0x5A#8, 0x36#8, byte l.length] ++ l).flatMap fun b => bitsOf 8 b.toNat)).toNat == ofWord high low

end Sys2Proof.Machine
end

