-- ==== Sys2Proof/Machine/Peers.lean ====
section
/-! DEFINITION. The peer table (05): arrivals, ageing, the setup at the end of the load and the clearing at STANDBY entry. -/

namespace Sys2Proof.Machine

/-- Replace the place of one station number. -/
def State.updatePeer (s : State) (n : Nat) (f : Peer → Peer) : State :=
  s.setPeers (s.peers.map fun p => if p.station == n then f p else p)

/-- The fields of a record as a frame gives them (R93). -/
def StateFrame.fields (f : StateFrame) : PeerFields :=
  { cap := f.cap, claim := f.claim, pace := f.pace, budget := f.budget, demand := f.demand, reports := f.brushes }

/-- A record after an arrival: replaced whole, FRESH, its age from zero, the expected flag kept (R93, R95). -/
def Peer.arrive (p : Peer) (f : StateFrame) (now : Micros) : Peer :=
  { p with fresh := .fresh, period := some (10 * f.period), age := some now, fields := some f.fields }

/-- The table takes a STATE frame from another station, its fields in range, and reports a lower-numbered claimant to the
drive (R93, R104). -/
def State.arrival (s : State) (f : StateFrame) : State :=
  let t := s.updatePeer f.station fun p => p.arrive f s.now
  if f.claim ∧ f.station < s.loader.station then t.driveYield else t

/-- A record's age has reached `k` announced periods (R96, R97). -/
def Peer.aged (p : Peer) (now : Micros) (k : Nat) : Bool :=
  match p.period with
  | some t => ranFor p.age now (ms (k * t))
  | none => false

/-- A FRESH record of another station has reached 3T (R96). -/
def State.freshDue (s : State) (n : Nat) : Bool :=
  match s.peer n with
  | some p => p.fresh == .fresh && p.aged s.now 3
  | none => false

/-- A STALE record of another station has reached 25T (R97). -/
def State.staleDue (s : State) (n : Nat) : Bool :=
  match s.peer n with
  | some p => p.fresh == .stale && p.aged s.now 25
  | none => false

/-- FRESH becomes STALE; no field changes and the age runs on (R96). -/
def Peer.stale (p : Peer) : Peer := { p with fresh := .stale }

/-- A record with no fields: SILENT if expected, ABSENT if not (R92, R97, R98). -/
def Peer.cleared (p : Peer) : Peer :=
  { p with fresh := if p.expected then .silent else .absent, period := none, age := none, fields := none }

/-- STALE ends: an expected record becomes SILENT with its fields kept and its age stopped, another is cleared (R97). -/
def Peer.expired (p : Peer) : Peer := if p.expected then { p with fresh := .silent, age := none } else p.cleared

/-- The peer table at STANDBY entry (R98). -/
def State.peersStandby (s : State) : State := s.setPeers (s.peers.map Peer.cleared)

/-- The table's setup at the end of a good load: the own number, and the expected peers SILENT with no fields (R92). -/
def State.peersStart (s : State) (own : Nat) (expected : List Nat) : State :=
  { s with
    tableOwn := some own
    peers := s.peers.map fun p =>
      ({ p with expected := expected.contains p.station && p.station != own } : Peer).cleared }

end Sys2Proof.Machine
end

