-- ==== Sys2Proof/Machine/Link.lean ====
section
/-! DEFINITION. The station bus link (06): the receiver, the transmit pair, the link states and their timers. -/

namespace Sys2Proof.Machine

/-! ### The receiver (R108, R112) -/

/-- The states in which the link receives (R112). -/
def LinkState.receives : LinkState → Bool
  | .active | .listenOnly | .silenced | .waking => true
  | .off | .dozing => false

/-- The recessive bits that end an end field, counted from its last bit back; 7 for one that passed whole (R108; log 26). -/
def trailingRecessive (e : BitVec 7) : Nat := ((bitsOf 7 e.toNat).reverse.takeWhile id).length

/-- The receiver hunts for idle with `n` recessive bits already counted (R108). -/
def Link.hunt (l : Link) (n : Nat) : Link := { l with receiver := .hunting, recessive := n }

/-- The receiver follows a frame (R108, R109, R110). -/
def Link.follow (l : Link) : Link := { l with receiver := .receiving, recessive := 0 }

/-- The link is receiving a frame that is not its own. -/
def Link.receivingFrame (l : Link) : Bool :=
  l.state.receives && l.receiver == .receiving && l.inFlight.isNone

/-- The hunting receiver counts 11 recessive bits: those of the count so far, unless a dominant bit restarted it, and the
ones shown (R108). -/
def Link.idleDue (l : Link) (restarted : Bool) (n : Nat) : Bool :=
  l.state.receives && l.receiver == .hunting && l.inFlight.isNone &&
    decide (11 ≤ (if restarted then n else l.recessive + n))

/-! ### Restart and states (R116 to R123) -/

/-- The restart at an entry to LISTEN_ONLY, SILENCED or DOZING: a frame in flight goes on to its end, the pending frame and any
reception are discarded (R116). -/
def Link.restart (l : Link) : Link :=
  let bare :=
    { l with pending := none, abandons := 0, periodTimer := none, finishing := l.inFlight.isSome }
  if l.inFlight.isSome then bare else bare.hunt 0

/-- The link enters ACTIVE: the listen and wake timers stopped, the abandon count 0; the frame of the entry is built as the
event ends (R111, R117, R118, R120, R123). -/
def Link.toActive (l : Link) : Link := { l with state := .active, listenTimer := none, wakeTimer := none, abandons := 0 }

/-- The link posts a fault; a posting that leaves the record LATCHED sets the latched flag (R117, R119). -/
def State.postLink (s : State) (code : FaultCode) : State :=
  let (ctl, st) := s.ctl.post s.now .link code
  (s.setCtl ctl).setLink { s.link with latched := s.link.latched || st == .latched }

/-- LISTEN_ONLY is entered at the eighth abandon (R117). -/
def State.listenOnly (s : State) : State :=
  (s.setLink { s.link.restart with state := .listenOnly, listenTimer := some s.now }).postLink .txErrors

/-- The clash quiet time is at least 2000 ms; a time that never started is "long" (R118, R120). -/
def Link.quiet (l : Link) (now : Micros) : Bool := l.clashTimer.isNone || ranFor l.clashTimer now (ms 2000)

/-- An identity clash (R118). -/
def State.clash (s : State) : State :=
  let l := { s.link with clashTimer := some s.now }
  match s.link.state with
  | .active => (s.setLink ({ l.restart with state := .silenced }.hunt l.recessive)).postLink .clash
  | .listenOnly =>
    (s.setLink ({ l.restart with state := .silenced, listenTimer := none }.hunt l.recessive)).postLink .clash
  | .silenced => s.setLink l
  | .off | .dozing | .waking => s

/-- The link takes a CLEAR: with its record LATCHED and the bus quiet for 2000 ms, the record goes, the count is 0, the flag is
cleared and the link returns to ACTIVE (R120). -/
def State.linkClear (s : State) : State :=
  if s.ctl.recordState .link = some .latched ∧ s.link.quiet s.now then
    (s.setCtl ((s.ctl.dropRecord .link).zeroCount .link)).setLink { s.link.toActive with latched := false }
  else s

/-- The link at STANDBY entry: DOZING, or OFF kept (R121). -/
def State.linkStandby (s : State) : State :=
  match s.link.state with
  | .active | .listenOnly | .silenced =>
    s.setLink { s.link.restart with state := .dozing, listenTimer := none, wakeTimer := none }
  | .off | .dozing | .waking => s

/-- The link as the station leaves STANDBY: ACTIVE, or back in the state that the code of its LATCHED record names (R123). -/
def State.linkLeaveStandby (s : State) : State :=
  match s.link.state with
  | .dozing | .waking =>
    if s.link.latched then
      let held : LinkState := if (s.ctl.record .link).map Record.code = some .clash then .silenced else .listenOnly
      s.setLink { s.link with state := held, wakeTimer := none }
    else s.setLink s.link.toActive
  | .off | .active | .listenOnly | .silenced => s

/-! ### Sending (R109 to R111) -/

/-- The length of the own frame in flight in bits (06, section 6.1). -/
def OwnFrame.bits (f : OwnFrame) : Nat := (sentBits f.snap.onBus).length

/-- The completion notice: a flag set with the present discard number clears the overrun flag (R131). -/
def Controller.completed (x : Controller) (f : OwnFrame) : Controller :=
  if f.snap.overrun ∧ f.discard = x.discard then { x with overrun := false } else x

/-- The link starts the pending frame (R109). -/
def Link.start (l : Link) : Link := { l.follow with inFlight := l.pending, pending := none, finishing := false }

/-- The bus is idle, the link ACTIVE and a frame pending (R109). -/
def Link.startDue (l : Link) : Bool :=
  l.state == .active && l.receiver == .idle && l.pending.isSome && l.inFlight.isNone

/-- An arbitration loss: the frame goes back to pending unless a newer one is there, or is dropped after a restart (R109,
R116). A dozing receiver follows nothing. -/
def Link.loseArbitration (l : Link) : Link :=
  let bare :=
    { l with
      inFlight := none, finishing := false
      pending := if l.finishing || l.pending.isSome then l.pending else l.inFlight }
  if l.state.receives then bare.follow else bare.hunt 0

/-- A bit error abandons the frame in flight; in ACTIVE the abandon count rises, unless a restart found the frame in flight,
and the eighth abandon stops the link (R110, R116, R117). -/
def State.abandon (s : State) : State :=
  let l := s.link
  let counts := l.state == .active && !l.finishing
  let bare : Link :=
    { l with inFlight := none, finishing := false, abandons := if counts then l.abandons + 1 else l.abandons }
  let t := s.setLink (if l.state.receives then bare.follow else bare.hunt 0)
  if counts ∧ 8 ≤ l.abandons + 1 then t.listenOnly else t

/-- The own frame has been sent to completion (R110, R116, R131). -/
def State.complete (s : State) (f : OwnFrame) : State :=
  let l := s.link
  let whole := l.state == .active && !l.finishing
  let noticed := s.ctl.completed f
  (s.setCtl (if whole then noticed.removeRecovering .link else noticed)).setLink
    { l.hunt 7 with inFlight := none, finishing := false, abandons := if whole then 0 else l.abandons }

/-- The complete effect of an own frame's end, when one is in flight. -/
def State.sentToCompletion (s : State) : State :=
  match s.link.inFlight with
  | some f => s.complete f
  | none => s

/-- The frame period has run in ACTIVE (R111). -/
def State.periodDue (s : State) : Bool :=
  s.link.state == .active && ranFor s.link.periodTimer s.now (ms (10 * s.cfg.general.periodCode))

/-! ### Frames taken (R112 to R114) -/

/-- A frame that ended at its end field leaves the receiver counting from the field's first bit (R108). -/
def State.frameEnded (s : State) (f : BusFrame) : State := s.setLink (s.link.hunt (trailingRecessive f.endField))

/-- The STATE frame that the link takes from what it received. -/
def takenState (f : BusFrame) : Option StateFrame :=
  match frameFate f with
  | .state x => some x
  | .command _ _ | .unknownClass | .brokenOff | .badShape | .badCrc | .badEnd => none

/-- The COMMAND frame that the link takes from what it received: target mask and command. -/
def takenCommand (f : BusFrame) : Option (Nat × Command) :=
  match frameFate f with
  | .command mask c => some (mask, c)
  | .state _ | .unknownClass | .brokenOff | .badShape | .badCrc | .badEnd => none

/-- A taken STATE frame is handed on by its station number and the link state (R113, R114). -/
def State.handState (s : State) (x : StateFrame) : State :=
  if x.station = 0 ∨ x.station = 15 ∨ s.link.state = .waking then s
  else if x.station = s.loader.station then s.clash
  else s.arrival x.clamp

/-- The effect of a STATE frame received (R112, R113). -/
def State.receiveState (s : State) (f : BusFrame) : State :=
  match takenState f with
  | some x => (s.frameEnded f).handState x
  | none => s

/-- The effect of a frame that fails its checks: the receiver hunts, from zero after a reception broken off, and no other state
changes (R108, R112). -/
def State.discardFrame (s : State) (f : BusFrame) : State :=
  match frameFate f with
  | .unknownClass => s.setLink (s.link.hunt 0)
  | .brokenOff => s.setLink (s.link.hunt 0)
  | .badShape => s.frameEnded f
  | .badCrc => s.frameEnded f
  | .badEnd => s.frameEnded f
  | .state _ => s
  | .command _ _ => s

/-- The frame fails its checks (R112). -/
def discarded (f : BusFrame) : Bool := (takenState f).isNone && (takenCommand f).isNone

end Sys2Proof.Machine
end

