-- ==== Sys2Proof/WellFormed.lean ====
section
/-! DEFINITION. What a command must satisfy to be one that the outside can bring about: bounds on its operands that its
type does not already carry. The meanings are total: on an ill-formed command they find no event. -/

namespace Sys2Proof

/-- A payload is as long as the length byte of its frame says (11, section 11.1). -/
def BusFrame.wellFormed (f : BusFrame) : Bool :=
  f.payload.length == f.length.toNat

/-- Stations are numbered 1 to 14 (00, "Station numbers"). -/
def stationNumber (n : Nat) : Bool := 1 ≤ n && n ≤ 14

/-- The bits of the longest frame a Mirchol 3640 sends, 270 (06, section 6.1). -/
def longestFrameBits : Nat := 270

/-- The checks on a command's operands. -/
def Instr.wellFormed : Instr → Bool
  | .stateFrameReceived _ f => f.wellFormed
  | .commandFrameReceived _ f => f.wellFormed
  | .frameDiscard _ f => f.wellFormed
  | .freshExpiry _ n => stationNumber n
  | .staleExpiry _ n => stationNumber n
  | .arbitrationLoss _ b => b ≤ 6
  | .bitError _ b => 7 ≤ b && b < longestFrameBits
  | .busIdle _ _ n => 1 ≤ n
  | .blockReadEnd _ fields _ => 245 ≤ fields.length && fields.length ≤ 251
  | .resetAssert _ | .resetRelease _ _ | .statusRequestAnswer _ _ | .statusWaitTimeout _ | .markerLengthCheck _ _ _ _
  | .driveStep _ | .pedalOnset _ | .pedalRecovery _ | .stopTimingEnd _ | .turnCompletion _ | .blindDetection _
  | .brushStep _ _ | .contactDetected _ _ _ | .descendTimeout _ _ _ | .lossOfContact _ _ _ | .starvation _ _ _
  | .spinDownEnd _ _ _ | .raiseTimeout _ _ _ | .resume _ _ _ | .trip _ _ _ | .stall _ _ _ | .overrunOnset _ _ _
  | .overrunClear _ _ _ | .overrunStanding _ _ _ | .brushRecoveryDelayEnd _ _ _ | .rationCapOnset _ _
  | .rationCapRelease _ _ | .sprayStep _ | .primeTimeEnd _ | .standstillHoldEnd _ | .tankLowEmpty _ | .refill _
  | .dryRun _ | .sprayRecoveryDelayEnd _ | .periodTimerExpiry _ | .busIdleStart _ | .sentToCompletion _
  | .listenTimerEnd _ | .clashQuietEnd _ | .receiverWake _ | .wakeWindowEnd _ | .modeCheck _ | .warmupEnd _
  | .restTimerEnd _ | .ignitionTimerEnd _ | .mode _ | .direction _ | .limit _ | .brush _ | .spray _ | .clear _ | .wake _
  | .windowTimerExpiry _ _ | .risingEdge _ _ | .zeroRateTimeout _ _ | .singleConversion _ _ | .coarseConversion _ _
  | .fineConversion _ _ | .pwmPeriodStart _ _ | .coilOpenDetect _ _ | .supplyStart _ _ | .supplyRelease _ _
  | .startBitTaken _ => true

end Sys2Proof
end

