-- ==== Sys2Proof/Machine/ModeControl.lean ====
section
/-! DEFINITION. The mode controller (07): mode changes, STANDBY entry and exit, the mode check, the command queue, the taking of
commands, and CLEAR. -/

namespace Sys2Proof.Machine

/-! ### Changes of mode (R126 to R130) -/

/-- The modes in which the ignition timer runs (R129). -/
def Mode.timesIgnition : Mode → Bool
  | .warmup | .parked | .transport | .sweep | .stowing | .parking | .limp => true
  | .unset | .shutdown | .standby => false

/-- The modes at whose entry the rest timer starts from zero, and which wait for it (R128, R129). -/
def Mode.timesRest : Mode → Bool
  | .parking | .shutdown => true
  | .unset | .limp | .warmup | .parked | .transport | .sweep | .stowing | .standby => false

/-- The station mode becomes another one than STANDBY: the warm-up timer starts at an entry to WARMUP, the rest timer starts from
zero at an entry to PARKING or SHUTDOWN with the machine at rest and goes on at any other, and the ignition timer goes on where
the new mode times it (R126, R128, R129; log 24). -/
def State.enterMode (s : State) (new : Mode) : State :=
  s.setCtl
    { s.ctl with
      mode := new
      warmupTimer := if new = .warmup then some s.now else none
      restTimer := if new.timesRest then runWhile s.atRest none s.now else s.ctl.restTimer
      ignitionTimer := if new.timesIgnition then s.ctl.ignitionTimer else none }

/-- What the mode controller itself does at STANDBY entry (R130, R138). -/
def Controller.standby (x : Controller) : Controller :=
  { x.standbyFaults with
    mode := .standby, queue := [], overrun := false, requested := .neutral, select0 := false, select1 := false,
    sprayOn := false, warmupTimer := none, restTimer := none, ignitionTimer := none }

/-- The converter at STANDBY entry: the scan stops and a coarse result is discarded (R148). -/
def State.convStandby (s : State) : State := s.setConv { s.conv with place := none, coarse := none }

/-- The channels' STANDBY paths (R25, R54, R69, R90). -/
def State.channelsStandby (s : State) : State :=
  ((((s.driveStandby).brushStandby .c0).brushStandby .c1).rationStandby).sprayStandby

/-- STANDBY is entered: the mode controller's own part, and every block's STANDBY path (R130). -/
def State.enterStandby (s : State) : State :=
  let t := ((s.channelsStandby.peersStandby.linkStandby.captureStandby).supplyStandby).convStandby
  t.setCtl t.ctl.standby

/-- STANDBY is left for the standby return (R130, R123, R148, R163). -/
def State.leaveStandby (s : State) : State :=
  let a := s.setCtl
    { s.ctl with
      mode := s.ctl.standbyReturn
      ignitionTimer := if s.pins.ignition then none else some s.now
      warmupTimer := if s.ctl.standbyReturn = .warmup then some s.now else none }
  let b := (a.setConv { a.conv with place := some .pedalA, coarse := none }).setOut { a.out with late := none }
  let c := if b.supplyLow then b.startNotices.makeSupplyRecord else b
  c.linkLeaveStandby

/-! ### The mode check (R125) -/

/-- What a mode check finds. -/
inductive ModeCause where
  | none
  | standbyExit
  | ignitionEnd
  | warmupEnd
  | stowingDone
  | restEnd
  deriving DecidableEq, Repr

/-- The ignition timing at this check (R129). -/
def State.ignitionTiming (s : State) : Timer :=
  runWhile (!s.pins.ignition && s.ctl.mode.timesIgnition) s.ctl.ignitionTimer s.now

/-- The rest timing at this check: it runs while the machine is at rest, in every mode but STANDBY, whose entry stops it (R128,
R130). -/
def State.restTiming (s : State) : Timer := runWhile (s.atRest && s.ctl.mode != .standby) s.ctl.restTimer s.now

/-- The condition that this check meets; the ignition timer first (R126, R128 to R130; log 23). -/
def State.modeCause (s : State) : ModeCause :=
  if s.ctl.mode = .standby then (if s.pins.ignition then .standbyExit else .none)
  else if ranFor s.ignitionTiming s.now (ms 2000) then .ignitionEnd
  else
    match s.ctl.mode with
    | .warmup => if ranFor s.ctl.warmupTimer s.now (ms s.cfg.general.warmup) then .warmupEnd else .none
    | .stowing => if s.brushesFinished then .stowingDone else .none
    | .parking | .shutdown =>
      if s.brushesFinished && ranFor s.restTiming s.now (ms 1000) then .restEnd else .none
    | .unset | .limp | .parked | .transport | .sweep | .standby => .none

/-- The mode check: its timings, and the change of mode that its condition calls for (R125 to R130). -/
def State.modeCheck (s : State) : State :=
  let t := s.setCtl { s.ctl with ignitionTimer := s.ignitionTiming, restTimer := s.restTiming }
  match s.modeCause with
  | .none => t
  | .standbyExit => s.leaveStandby
  | .ignitionEnd => if s.ctl.mode = .limp then t.enterStandby else t.enterMode .shutdown
  | .warmupEnd => t.enterMode .parked
  | .stowingDone => t.enterMode .transport
  | .restEnd =>
    if s.ctl.mode = .parking then t.enterMode .parked
    else if s.pins.ignition then t.enterMode .warmup
    else t.enterStandby

/-! ### The command queue (R131, R132) -/

/-- A command joins the tail of the queue, or is discarded when the queue is full (R131). -/
def Controller.enqueue (x : Controller) (c : Command) : Controller :=
  if x.queue.length < 4 then { x with queue := x.queue ++ [c] }
  else { x with overrun := true, discard := (x.discard + 1) % 256 }

/-- A frame's target mask names the own station (R113, R173). -/
def addressed (mask own : Nat) : Bool := stationNumber own && bitOf mask own

/-- A taken COMMAND frame is handed on: in WAKING a WAKE wakes the station and nothing else is taken; otherwise the command goes
to the queue (R113, R122, R131). -/
def State.handCommand (s : State) (mask : Nat) (c : Command) : State :=
  if !addressed mask s.loader.station then s
  else if s.link.state = .waking then (if c.kind = .wake ∧ s.ctl.mode = .standby then s.leaveStandby else s)
  else s.setCtl (s.ctl.enqueue c)

/-- The effect of a COMMAND frame received (R112, R113). -/
def State.receiveCommand (s : State) (f : BusFrame) : State :=
  match takenCommand f with
  | some (mask, c) => (s.frameEnded f).handCommand mask c
  | none => s

/-- The kind at the head of the queue. -/
def Controller.head (x : Controller) : Option CmdKind := x.queue.head?.map (·.kind)

/-- Remove the head of the queue. -/
def Controller.pop (x : Controller) : Controller := { x with queue := x.queue.drop 1 }

/-- The modes in which a MODE command at the head is takeable (R132). -/
def Mode.takesMode : Mode → Bool
  | .parked | .transport | .sweep | .limp => true
  | .unset | .warmup | .stowing | .parking | .shutdown | .standby => false

/-- The argument of a MODE command that can be taken now. -/
def State.headMode (s : State) : Option Byte :=
  match s.ctl.head with
  | some (.mode code) => if s.ctl.mode.takesMode then some code else none
  | _ => none

/-- The head of the queue when it is takeable and not a MODE command (R132). -/
def State.headOther (s : State) : Option CmdKind :=
  if s.ctl.mode = .standby then none
  else
    match s.ctl.head with
    | some (.mode _) => none
    | k => k

/-! ### The effect of a command taken (R127, R133, R137) -/

/-- The mode that a MODE command's code names, if it is one of the four (R173). -/
def modeNamed (code : Byte) : Option Mode :=
  match code.toNat with
  | 2 => some .parked
  | 3 => some .transport
  | 4 => some .sweep
  | 8 => some .standby
  | _ => none

/-- Where a MODE command leads from the mode at the take; `none` is no effect (R127). -/
def modeMove : Mode → Mode → Option Mode
  | .parked, .transport => some .transport
  | .parked, .sweep => some .sweep
  | .parked, .standby => some .shutdown
  | .transport, .parked => some .parking
  | .transport, .sweep => some .sweep
  | .transport, .standby => some .shutdown
  | .sweep, .parked => some .parking
  | .sweep, .transport => some .stowing
  | .sweep, .standby => some .shutdown
  | _, _ => none

/-- The queue's head is taken. -/
def State.popped (s : State) : State := s.setCtl s.ctl.pop

/-- The effect of a MODE command (R127). -/
def State.takeMode (s : State) (code : Byte) : State :=
  match (modeNamed code).bind (modeMove s.ctl.mode) with
  | some new => s.enterMode new
  | none => s

/-- The direction that a DIRECTION command's code names (R133). -/
def directionNamed (code : Byte) (held : Dir) : Dir :=
  match code.toNat with
  | 0 => .neutral
  | 1 => .fwd
  | 2 => .rev
  | _ => held

/-- Each counted source whose record is not LATCHED has its count set to 0 (R137). -/
def Controller.zeroOthers (x : Controller) : Controller :=
  allCounted.foldl
    (fun y k => if x.recordState (sourceOf k) = some .latched then y else y.zeroCount k) x

/-- The effect of a CLEAR: the other counts are set to 0, and every LATCHED source applies its test (R137). -/
def State.takeClear (s : State) : State :=
  (((((s.setCtl s.ctl.zeroOthers).driveClear).brushClear .c0).brushClear .c1).sprayClear).linkClear

/-- The effect of a command other than MODE (R133). -/
def State.takeOther (s : State) (k : CmdKind) : State :=
  match k with
  | .mode _ => s
  | .direction code => s.setCtl { s.ctl with requested := directionNamed code s.ctl.requested }
  | .limit v => s.setCtl { s.ctl with limit := min v 4000 }
  | .brush mask => s.setCtl { s.ctl with select0 := bitOf mask.toNat 0, select1 := bitOf mask.toNat 1 }
  | .spray on rate =>
    s.setCtl { s.ctl with sprayOn := bitOf on.toNat 0, sprayRate := clampNat 5 100 rate.toNat }
  | .clear => s.takeClear
  | .wake => s

/-- A kind of command, without its argument. -/
inductive CmdName where
  | direction | limit | brush | spray | clear | wake
  deriving DecidableEq, Repr

/-- A command is of a kind. -/
def CmdKind.isNamed : CmdKind → CmdName → Bool
  | .direction _, .direction => true
  | .limit _, .limit => true
  | .brush _, .brush => true
  | .spray _ _, .spray => true
  | .clear, .clear => true
  | .wake, .wake => true
  | _, _ => false

/-- The head of the queue is a takeable command of this kind (R132). -/
def State.headIs (s : State) (k : CmdName) : Bool := s.headOther.any fun c => c.isNamed k

/-- Take the head of the queue (R132, R133). -/
def State.takeHead (s : State) : State :=
  match s.headOther with
  | some k => s.popped.takeOther k
  | none => s

/-- Take a MODE command at the head of the queue (R127, R132). -/
def State.takeHeadMode (s : State) : State :=
  match s.headMode with
  | some code => s.popped.takeMode code
  | none => s

/-! ### Taking as soon as takeable (R132) -/

/-- The entry at the head of the queue is takeable in the present mode (R132). -/
def State.takeable (s : State) : Bool := s.headMode.isSome || s.headOther.isSome

/-- One take, whole: the head is removed, its effect made and what follows set, before the next head is tested (R132). -/
def State.takeOne (s : State) : State :=
  (if s.headMode.isSome then s.takeHeadMode else s.takeHead).finish s.link.state

/-- At most `n` takes, oldest first, while the head is takeable (R132). -/
def State.takes : Nat → State → State
  | 0, s => s
  | n + 1, s => if s.takeable then State.takes n s.takeOne else s

/-- Every entry that is takeable is taken: the head is tested until one blocks the queue or none is left (R132). -/
def State.takeDue (s : State) : State := s.takes s.ctl.queue.length

/-! ### The window timer -/

/-- A source has gone 60000 ms without a posting and its record is not LATCHED (R136). -/
def State.windowDue (s : State) (k : Counted) : Bool :=
  s.ctl.recordState (sourceOf k) != some .latched && ranFor (s.ctl.recovery k).window s.now (ms 60000)

end Sys2Proof.Machine
end

