-- ==== Sys2Proof/Machine/Loader.lean ====
section
/-! DEFINITION. The configuration loader (10): reset, the straps, the serial memory, the end of the load. -/

namespace Sys2Proof.Machine

/-! ### The end of the load (R170) -/

/-- The loader in DONE, the SPI lines inactive (R164, R170). -/
def Loader.finish (l : Loader) (outcome : LoadOutcome) (image : Option Image) (clamped : Bool) : Loader :=
  { l with
    state := .done, outcome := outcome, image := image, clamped := clamped, statusWait := none, spiSelected := false,
    spiSent := [], length := none }

/-- The mode controller's start: the mode and standby return, the warm-up timer, the spray rate, and the CONFIG record that the
load made (R124, R170). -/
def State.startControl (s : State) (mode : Mode) (record : Option FaultCode) : State :=
  let x :=
    { s.ctl with
      mode := mode, standbyReturn := mode, warmupTimer := if mode = .warmup then some s.now else none,
      sprayRate := s.cfg.spray.rate }
  s.setCtl
    (match record with
     | some code => x.putRecord .config code .latched
     | none => x)

/-- The link enters ACTIVE from OFF, hunting for idle (R115). -/
def State.startLink (s : State) : State := s.setLink s.link.toActive

/-- A proportional output starts its first PWM period (R155). -/
def CoilOut.begin (x : CoilOut) (now : Micros) : CoilOut := { x with duty := x.shadow, start := some now, running := true }

/-- The PWM periods start (R155). -/
def State.startOutputs (s : State) : State :=
  let o := s.out
  s.setOut
    { o with
      driveF := o.driveF.begin s.now, driveR := o.driveR.begin s.now, brush0 := o.brush0.begin s.now,
      brush1 := o.brush1.begin s.now, pump := o.pump.begin s.now }

/-- The enabled channels leave DISABLED (R2, R27, R71). -/
def State.startChannels (s : State) : State :=
  { s with
    drive := { s.drive with state := if s.cfg.drive.enable = 1 then .standstill else .disabled }
    brush0 := { s.brush0 with state := if s.cfg.brush0.enable = 1 then .stowed else .disabled }
    brush1 := { s.brush1 with state := if s.cfg.brush1.enable = 1 then .stowed else .disabled }
    spray := { s.spray with state := if s.cfg.spray.enable = 1 then .off else .disabled } }

/-- The end of a good load (R170). -/
def State.endGood (s : State) (fields : List Byte) : State :=
  let t := { s with loader := s.loader.finish .good (some (loadImage fields)) (loadClamped fields) }
  let u := (t.startControl .warmup (if loadShort fields then some .schedule else none)).peersStart s.loader.station
    (loadImage fields).general.expected
  (u.startChannels.startOutputs).startLink

/-- The end of a failed load (R167, R170). -/
def State.endFailed (s : State) (code : FaultCode) : State :=
  let t := { s with loader := s.loader.finish .failed none false }
  ((t.startControl .limp (some code)).peersStart s.loader.station []).startLink

/-- The end of a load with an illegal strap value (R165, R170). -/
def State.endIllegal (s : State) : State :=
  ({ s with loader := s.loader.finish .illegalStrap none false } : State).startControl .limp (some .strap)

/-! ### The steps of the load (R164 to R167) -/

/-- Reset: every block at its reset values, the reset held; the inputs show what they show (R164). -/
def State.toReset (s : State) (m : Moment) : State := { State.reset with pins := m.pins, pending := s.pending }

/-- The straps are sampled; a legal number starts the status request and its wait, and the converter scan starts (R148, R165,
R166). -/
def State.release (s : State) (straps : BitVec 4) : State :=
  let t := s.setConv { s.conv with place := some .pedalA, coarse := none }
  let l := { s.loader with resetHeld := false, station := straps.toNat }
  if stationNumber straps.toNat then
    t.setLoader
      { l with state := .reading, statusWait := some s.now, spiSelected := true, spiSent := [0x05#8], length := none }
  else (t.setLoader l).endIllegal

/-- The status wait runs and has not run out (R166). -/
def State.awaitsStatus (s : State) : Bool :=
  s.loader.state == .reading && s.loader.statusWait.any fun b => decide (s.now ≤ b + ms 10)

/-- The memory's status byte shows it ready: bit 0 is 0 (R174). -/
def statusReady (status : Byte) : Bool := !bitOf status.toNat 0

/-- A status byte: a ready memory is sent the read request for address 0, a busy one is asked again (R166, R174). -/
def State.takeStatus (s : State) (status : Byte) : State :=
  s.setLoader
    (if statusReady status then { s.loader with statusWait := none, spiSelected := true, spiSent := [0x03#8, 0x00#8] }
     else { s.loader with spiSelected := true, spiSent := [0x05#8] })

/-- The block is being read and its length is not known yet. -/
def State.awaitsMarker (s : State) : Bool :=
  s.loader.state == .reading && s.loader.spiSent == [0x03#8, 0x00#8] && s.loader.length.isNone

/-- The marker and the length are tested as they arrive (R166, R174). -/
def State.takeMarker (s : State) (b0 b1 length : Byte) : State :=
  if b0 ≠ 0x5A#8 ∨ b1 ≠ 0x36#8 then s.endFailed .badMarker
  else if length.toNat < 245 ∨ 251 < length.toNat then s.endFailed .badLength
  else s.setLoader { s.loader with length := some length.toNat }

/-- The field bytes the accepted length calls for have been read. -/
def State.awaitsBlock (s : State) (fields : List Byte) : Bool :=
  s.loader.state == .reading && s.loader.length == some fields.length

/-- The CRC is checked, its two bytes high byte first; a good block is clamped and checked, and the load ends (R167 to R170,
R174). -/
def State.takeBlock (s : State) (fields : List Byte) (crcHigh crcLow : Byte) : State :=
  if blockCrcMatches fields crcHigh crcLow then s.endGood fields else s.endFailed .badCrc

end Sys2Proof.Machine
end

