-- ==== Sys2Proof/Machine/Commands.lean ====
section
/-! DEFINITION. The commands: the frame that every event of the part shares, and the meaning of each row of the table over the
operations of its block. -/

namespace Sys2Proof.Machine

/-! ### The frame of an event -/

/-- An event of the part. First the heads of the command queue that are takeable are taken, at the moment at which they became
so (R132, log 25). Then time passes to the event's moment; if its condition holds there, its effect is taken and what follows is
set; if not, it is no event and nothing else changes (log 3). -/
def State.event (s : State) (m : Moment) (due : State → Bool) (effect : State → State) : State :=
  let a := s.takeDue.arrive m
  if due a then (effect a).finish a.link.state else a

/-- The row of one kind of command. A takeable command of that kind at the head of the queue is taken at the moment at which it
became takeable. A row at that very moment is the take of this one entry. If time passes to the row, the heads that follow are
tested and taken first, at the same moment, so that no takeable head stands while time passes (R132, R175, log 25). If the head is
another, it is no row of this kind, and what is takeable is taken. -/
def State.takeEvent (s : State) (m : Moment) (due : State → Bool) : State :=
  (if due s && m.dt == 0 then s.takeOne else s.takeDue).arrive m

/-! ### The configuration loader (10) -/

/-- RESET_ASSERT (R164). -/
def execResetAssert (m : Moment) (s : State) : Host.Outcome State Fault Refusal := .next (s.toReset m)

/-- RESET_RELEASE (R164). -/
def execResetRelease (m : Moment) (straps : BitVec 4) (s : State) : Host.Outcome State Fault Refusal :=
  .next (s.event m (fun a => a.loader.resetHeld) fun a => a.release straps)

/-- STATUS_REQUEST_ANSWER (R166). -/
def execStatusRequestAnswer (m : Moment) (status : Byte) (s : State) : Host.Outcome State Fault Refusal :=
  .next (s.event m State.awaitsStatus fun a => a.takeStatus status)

/-- STATUS_WAIT_TIMEOUT (R166). -/
def execStatusWaitTimeout (m : Moment) (s : State) : Host.Outcome State Fault Refusal :=
  .next (s.event m (fun a => a.loader.state == .reading && ranFor a.loader.statusWait a.now (ms 10))
    fun a => a.endFailed .noMemory)

/-- MARKER_LENGTH_CHECK (R166). -/
def execMarkerLengthCheck (m : Moment) (b0 b1 length : Byte) (s : State) : Host.Outcome State Fault Refusal :=
  .next (s.event m State.awaitsMarker fun a => a.takeMarker b0 b1 length)

/-- BLOCK_READ_END (R167): the field bytes, and the two CRC bytes in the order in which they come. -/
def execBlockReadEnd (m : Moment) (fields : List Byte) (crc : Byte × Byte) (s : State) :
    Host.Outcome State Fault Refusal :=
  .next (s.event m (fun a => a.awaitsBlock fields) fun a => a.takeBlock fields crc.1 crc.2)

/-! ### The travel drive (01) -/

/-- DRIVE_STEP (R1). -/
def execDriveStep (m : Moment) (s : State) : Host.Outcome State Fault Refusal :=
  .next (s.event m State.driveStepRuns State.driveStep)

/-- PEDAL_ONSET (R4): the drive step that finds the disagreement held for 100 ms (log 4). -/
def execPedalOnset (m : Moment) (s : State) : Host.Outcome State Fault Refusal :=
  .next (s.event m State.pedalOnsetMet State.driveStep)

/-- PEDAL_RECOVERY (R4): the drive step that finds agreement at rest held for 500 ms (log 4). -/
def execPedalRecovery (m : Moment) (s : State) : Host.Outcome State Fault Refusal :=
  .next (s.event m State.pedalRecoveryMet State.driveStep)

/-- STOP_TIMING_END (R11): the drive step that ends the stop timing (log 4). -/
def execStopTimingEnd (m : Moment) (s : State) : Host.Outcome State Fault Refusal :=
  .next (s.event m State.stopMet State.driveStep)

/-- TURN_COMPLETION (R14): the drive step that engages the requested direction out of TURNING (log 4). -/
def execTurnCompletion (m : Moment) (s : State) : Host.Outcome State Fault Refusal :=
  .next (s.event m State.turnMet State.driveStep)

/-- BLIND_DETECTION (R16): the drive step at which the blind flag is set (log 4). -/
def execBlindDetection (m : Moment) (s : State) : Host.Outcome State Fault Refusal :=
  .next (s.event m State.blindMetAtStep State.driveStep)

/-! ### The brush channels and the ration cap (02, 03) -/

/-- BRUSH_STEP (R26). -/
def execBrushStep (m : Moment) (first : Chan) (s : State) : Host.Outcome State Fault Refusal :=
  .next (s.event m State.brushStepRuns (State.brushStep first))

/-- This brush step meets a cause at a channel (log 4). -/
def State.brushMeets (s : State) (first c : Chan) (p : BrushCause → Bool) : Bool :=
  s.brushStepRuns && p (s.brushCauseAtStep first c)

/-- CONTACT_DETECTED (R31): the brush step that finds that the contact condition has held for t_contact (log 4). -/
def execContactDetected (m : Moment) (first c : Chan) (s : State) : Host.Outcome State Fault Refusal :=
  .next (s.event m (fun a => a.brushMeets first c (· == .contact)) (State.brushStep first))

/-- DESCEND_TIMEOUT (R32): the brush step that finds that the descend timeout has passed without contact (log 4). -/
def execDescendTimeout (m : Moment) (first c : Chan) (s : State) : Host.Outcome State Fault Refusal :=
  .next (s.event m (fun a => a.brushMeets first c (· == .descendTimeout)) (State.brushStep first))

/-- LOSS_OF_CONTACT (R33): the brush step that finds that contact has been lost for t_loss (log 4). -/
def execLossOfContact (m : Moment) (first c : Chan) (s : State) : Host.Outcome State Fault Refusal :=
  .next (s.event m (fun a => a.brushMeets first c (· == .lost)) (State.brushStep first))

/-- STARVATION (R34): the brush step that finds that the channel has been starved for 2000 ms (log 4). -/
def execStarvation (m : Moment) (first c : Chan) (s : State) : Host.Outcome State Fault Refusal :=
  .next (s.event m (fun a => a.brushMeets first c (· == .starved)) (State.brushStep first))

/-- SPIN_DOWN_END (R35): the brush step that finds that the spin-down time has passed (log 4). -/
def execSpinDownEnd (m : Moment) (first c : Chan) (s : State) : Host.Outcome State Fault Refusal :=
  .next (s.event m (fun a => a.brushMeets first c (· == .spinDownEnd)) (State.brushStep first))

/-- RAISE_TIMEOUT (R36): the brush step that finds that the raise timeout has passed without ARM_UP (log 4). -/
def execRaiseTimeout (m : Moment) (first c : Chan) (s : State) : Host.Outcome State Fault Refusal :=
  .next (s.event m (fun a => a.brushMeets first c (· == .raiseTimeout)) (State.brushStep first))

/-- RESUME (R37): the brush step that finds that the would-be ratio has stood for 1000 ms (log 4). -/
def execResume (m : Moment) (first c : Chan) (s : State) : Host.Outcome State Fault Refusal :=
  .next (s.event m (fun a => a.brushMeets first c (· == .resumed)) (State.brushStep first))

/-- TRIP (R40): the brush step that finds that the pressure has been over P_lim for t_trip in TRIP mode (log 4). -/
def execTrip (m : Moment) (first c : Chan) (s : State) : Host.Outcome State Fault Refusal :=
  .next (s.event m (fun a => a.brushMeets first c (· == .trip)) (State.brushStep first))

/-- STALL (R42): the brush step that finds that the pressure has been over P_lim for t_hold_max in HOLD mode (log 4). -/
def execStall (m : Moment) (first c : Chan) (s : State) : Host.Outcome State Fault Refusal :=
  .next (s.event m (fun a => a.brushMeets first c (· == .stall)) (State.brushStep first))

/-- OVERRUN_ONSET (R43): the brush step that finds that the speed has been over the overrun threshold for 300 ms (log 4). -/
def execOverrunOnset (m : Moment) (first c : Chan) (s : State) : Host.Outcome State Fault Refusal :=
  .next (s.event m (fun a => a.brushMeets first c (· == .overrunOnset)) (State.brushStep first))

/-- OVERRUN_CLEAR (R44): the brush step that finds that the speed has been at or below n_g for 1000 ms (log 4). -/
def execOverrunClear (m : Moment) (first c : Chan) (s : State) : Host.Outcome State Fault Refusal :=
  .next (s.event m (fun a => a.brushMeets first c (· == .overrunClear)) (State.brushStep first))

/-- OVERRUN_STANDING (R44): the brush step that finds that the overrun condition has stood for 3000 ms (log 4). -/
def execOverrunStanding (m : Moment) (first c : Chan) (s : State) : Host.Outcome State Fault Refusal :=
  .next (s.event m (fun a => a.brushMeets first c (· == .overrunStanding)) (State.brushStep first))

/-- BRUSH_RECOVERY_DELAY_END (R48): the brush step that finds that the recovery delay has ended (log 4). -/
def execBrushRecoveryDelayEnd (m : Moment) (first c : Chan) (s : State) : Host.Outcome State Fault Refusal :=
  .next (s.event m (fun a => a.brushMeets first c (· == .recoveryEnd)) (State.brushStep first))

/-- The ration cap becomes active at this brush step (R67). -/
def State.capOnsetMet (s : State) (first : Chan) : Bool :=
  let a := s.brushStage1Both first
  s.brushStepRuns && !a.ration.capActive && a.rationActive

/-- The ration cap becomes inactive at this brush step, its ratio having held (R68). -/
def State.capReleaseMet (s : State) (first : Chan) : Bool :=
  let a := s.brushStage1Both first
  s.brushStepRuns && ranFor a.rationRelease a.now (ms 2000)

/-- RATION_CAP_ONSET (R67): the brush step that makes the ration cap active (log 4). -/
def execRationCapOnset (m : Moment) (first : Chan) (s : State) : Host.Outcome State Fault Refusal :=
  .next (s.event m (fun a => a.capOnsetMet first) (State.brushStep first))

/-- RATION_CAP_RELEASE (R68): the brush step that makes the ration cap inactive (log 4). -/
def execRationCapRelease (m : Moment) (first : Chan) (s : State) : Host.Outcome State Fault Refusal :=
  .next (s.event m (fun a => a.capReleaseMet first) (State.brushStep first))

/-! ### The spray channel (04) -/

/-- SPRAY_STEP (R70). -/
def execSprayStep (m : Moment) (s : State) : Host.Outcome State Fault Refusal :=
  .next (s.event m State.sprayStepRuns State.sprayStep)

/-- This spray step meets a cause (log 4). -/
def State.sprayMeets (s : State) (p : SprayCause → Bool) : Bool := s.sprayStepRuns && p s.sprayCause

/-- The prime time has passed at this step (R78). -/
def SprayCause.isPrimeEnd : SprayCause → Bool
  | .primeEndPaused | .primeEndSpraying => true
  | .none | .released | .unwanted | .sensor | .dryRun | .tankLowEmpty | .prime | .paceUnknown | .standstill | .resume
  | .refilled | .modeExit | .recoveryEnd => false

/-- PRIME_TIME_END (R78): the spray step that finds that the prime time has passed (log 4). -/
def execPrimeTimeEnd (m : Moment) (s : State) : Host.Outcome State Fault Refusal :=
  .next (s.event m (fun a => a.sprayMeets SprayCause.isPrimeEnd) State.sprayStep)

/-- STANDSTILL_HOLD_END (R79): the spray step that finds that the standstill hold has ended (log 4). -/
def execStandstillHoldEnd (m : Moment) (s : State) : Host.Outcome State Fault Refusal :=
  .next (s.event m (fun a => a.sprayMeets (· == .standstill)) State.sprayStep)

/-- TANK_LOW_EMPTY (R81): the spray step that finds that the tank low indication has held for 5000 ms (log 4). -/
def execTankLowEmpty (m : Moment) (s : State) : Host.Outcome State Fault Refusal :=
  .next (s.event m (fun a => a.sprayMeets (· == .tankLowEmpty)) State.sprayStep)

/-- REFILL (R81): the spray step that finds that the refilled level has stood for 5000 ms (log 4). -/
def execRefill (m : Moment) (s : State) : Host.Outcome State Fault Refusal :=
  .next (s.event m (fun a => a.sprayMeets (· == .refilled)) State.sprayStep)

/-- DRY_RUN (R83): the spray step that finds that the dry run has held for 3000 ms (log 4). -/
def execDryRun (m : Moment) (s : State) : Host.Outcome State Fault Refusal :=
  .next (s.event m (fun a => a.sprayMeets (· == .dryRun)) State.sprayStep)

/-- SPRAY_RECOVERY_DELAY_END (R86): the spray step that finds that the recovery delay has ended (log 4). -/
def execSprayRecoveryDelayEnd (m : Moment) (s : State) : Host.Outcome State Fault Refusal :=
  .next (s.event m (fun a => a.sprayMeets (· == .recoveryEnd)) State.sprayStep)

/-! ### The peer table (05) -/

/-- FRESH_EXPIRY (R96). -/
def execFreshExpiry (m : Moment) (n : Nat) (s : State) : Host.Outcome State Fault Refusal :=
  .next (s.event m (fun a => a.freshDue n) fun a => a.updatePeer n Peer.stale)

/-- STALE_EXPIRY (R97). -/
def execStaleExpiry (m : Moment) (n : Nat) (s : State) : Host.Outcome State Fault Refusal :=
  .next (s.event m (fun a => a.staleDue n) fun a => a.updatePeer n Peer.expired)

/-! ### The station bus link (06) -/

/-- STATE_FRAME_RECEIVED (R113). -/
def execStateFrameReceived (m : Moment) (f : BusFrame) (s : State) : Host.Outcome State Fault Refusal :=
  .next (s.event m (fun a => a.link.receivingFrame && (takenState f).isSome) fun a => a.receiveState f)

/-- FRAME_DISCARD (R112). -/
def execFrameDiscard (m : Moment) (f : BusFrame) (s : State) : Host.Outcome State Fault Refusal :=
  .next (s.event m (fun a => a.link.receivingFrame && discarded f) fun a => a.discardFrame f)

/-- PERIOD_TIMER_EXPIRY (R111). -/
def execPeriodTimerExpiry (m : Moment) (s : State) : Host.Outcome State Fault Refusal :=
  .next (s.event m State.periodDue State.buildFrame)

/-- BUS_IDLE_START (R109). -/
def execBusIdleStart (m : Moment) (s : State) : Host.Outcome State Fault Refusal :=
  .next (s.event m (fun a => a.link.startDue) fun a => a.setLink a.link.start)

/-- ARBITRATION_LOSS (R109): a mismatch at bit `bit` of the frame, 0 the start bit, 1 to 6 the arbitration field (log 38). -/
def execArbitrationLoss (m : Moment) (bit : Nat) (s : State) : Host.Outcome State Fault Refusal :=
  .next (s.event m (fun a => a.link.inFlight.isSome && decide (bit ≤ 6)) fun a => a.setLink a.link.loseArbitration)

/-- BIT_ERROR (R110): a mismatch at bit `bit`, after the arbitration field (log 38). -/
def execBitError (m : Moment) (bit : Nat) (s : State) : Host.Outcome State Fault Refusal :=
  .next (s.event m (fun a => decide (7 ≤ bit) && a.link.inFlight.any fun f => decide (bit < f.bits)) State.abandon)

/-- SENT_TO_COMPLETION (R110). -/
def execSentToCompletion (m : Moment) (s : State) : Host.Outcome State Fault Refusal :=
  .next (s.event m (fun a => a.link.inFlight.isSome) State.sentToCompletion)

/-- The effect of the listen timer's end: an unlatched link returns to ACTIVE with its record RECOVERING, a latched one stays
(R117, R119). -/
def State.listenEnd (s : State) : State :=
  if s.link.latched then s.setLink { s.link with listenTimer := none }
  else (s.setCtl (s.ctl.makeRecovering .link)).setLink s.link.toActive

/-- LISTEN_TIMER_END (R117). -/
def execListenTimerEnd (m : Moment) (s : State) : Host.Outcome State Fault Refusal :=
  .next (s.event m (fun a => a.link.state == .listenOnly && ranFor a.link.listenTimer a.now (ms 1000)) State.listenEnd)

/-- The effect of the clash quiet time's end in an unlatched SILENCED link (R118, R119). -/
def State.quietEnd (s : State) : State :=
  (s.setCtl (s.ctl.makeRecovering .link)).setLink s.link.toActive

/-- CLASH_QUIET_END (R118). -/
def execClashQuietEnd (m : Moment) (s : State) : Host.Outcome State Fault Refusal :=
  .next (s.event m (fun a => a.link.state == .silenced && !a.link.latched && a.link.quiet a.now) State.quietEnd)

/-- RECEIVER_WAKE (R122): the first dominant bit in DOZING after the frame the link may be finishing. -/
def execReceiverWake (m : Moment) (s : State) : Host.Outcome State Fault Refusal :=
  .next (s.event m (fun a => a.link.state == .dozing && a.link.inFlight.isNone)
    fun a => a.setLink { a.link.hunt 0 with state := .waking, wakeTimer := some a.now })

/-- WAKE_WINDOW_END (R122). -/
def execWakeWindowEnd (m : Moment) (s : State) : Host.Outcome State Fault Refusal :=
  .next (s.event m (fun a => a.link.state == .waking && ranFor a.link.wakeTimer a.now (ms 2000))
    fun a => a.setLink { a.link.restart with state := .dozing, wakeTimer := none })

/-- BUS_IDLE (R108): `n` recessive bits have been shown, since a dominant bit if `restarted`, since the count began if not. -/
def execBusIdle (m : Moment) (restarted : Bool) (n : Nat) (s : State) : Host.Outcome State Fault Refusal :=
  .next (s.event m (fun a => a.link.idleDue restarted n)
    fun a => a.setLink { a.link with receiver := .idle, recessive := 11 })

/-- START_BIT_TAKEN (R112): another station's start bit on the idle bus. -/
def execStartBitTaken (m : Moment) (s : State) : Host.Outcome State Fault Refusal :=
  .next (s.event m (fun a => a.link.state.receives && a.link.receiver == .idle && a.link.inFlight.isNone)
    fun a => a.setLink a.link.follow)

/-! ### The mode controller (07) -/

/-- COMMAND_FRAME_RECEIVED (R131). -/
def execCommandFrameReceived (m : Moment) (f : BusFrame) (s : State) : Host.Outcome State Fault Refusal :=
  .next (s.event m (fun a => a.link.receivingFrame && (takenCommand f).isSome) fun a => a.receiveCommand f)

/-- The mode check runs from the end of the load on (R125). -/
def State.checks (s : State) : Bool := s.loaded

/-- MODE_CHECK (R125). -/
def execModeCheck (m : Moment) (s : State) : Host.Outcome State Fault Refusal :=
  .next (s.event m State.checks State.modeCheck)

/-- WARMUP_END (R126): the mode check that finds the warm-up time passed (log 4). -/
def execWarmupEnd (m : Moment) (s : State) : Host.Outcome State Fault Refusal :=
  .next (s.event m (fun a => a.checks && a.modeCause == .warmupEnd) State.modeCheck)

/-- REST_TIMER_END (R128): the mode check that ends PARKING or SHUTDOWN (log 4). -/
def execRestTimerEnd (m : Moment) (s : State) : Host.Outcome State Fault Refusal :=
  .next (s.event m (fun a => a.checks && a.modeCause == .restEnd) State.modeCheck)

/-- IGNITION_TIMER_END (R129): the mode check that finds the ignition low for 2000 ms (log 4). -/
def execIgnitionTimerEnd (m : Moment) (s : State) : Host.Outcome State Fault Refusal :=
  .next (s.event m (fun a => a.checks && a.modeCause == .ignitionEnd) State.modeCheck)

/-- MODE (R127). -/
def execMode (m : Moment) (s : State) : Host.Outcome State Fault Refusal :=
  .next (s.takeEvent m (fun a => a.headMode.isSome))

/-- DIRECTION (R133). -/
def execDirection (m : Moment) (s : State) : Host.Outcome State Fault Refusal :=
  .next (s.takeEvent m (fun a => a.headIs .direction))

/-- LIMIT (R133). -/
def execLimit (m : Moment) (s : State) : Host.Outcome State Fault Refusal :=
  .next (s.takeEvent m (fun a => a.headIs .limit))

/-- BRUSH (R133). -/
def execBrush (m : Moment) (s : State) : Host.Outcome State Fault Refusal :=
  .next (s.takeEvent m (fun a => a.headIs .brush))

/-- SPRAY (R133). -/
def execSpray (m : Moment) (s : State) : Host.Outcome State Fault Refusal :=
  .next (s.takeEvent m (fun a => a.headIs .spray))

/-- CLEAR (R137). -/
def execClear (m : Moment) (s : State) : Host.Outcome State Fault Refusal :=
  .next (s.takeEvent m (fun a => a.headIs .clear))

/-- WAKE (R133). -/
def execWake (m : Moment) (s : State) : Host.Outcome State Fault Refusal :=
  .next (s.takeEvent m (fun a => a.headIs .wake))

/-- WINDOW_TIMER_EXPIRY (R136). -/
def execWindowTimerExpiry (m : Moment) (src : Counted) (s : State) : Host.Outcome State Fault Refusal :=
  .next (s.event m (fun a => a.windowDue src) fun a => a.setCtl (a.ctl.setRecovery src Recovery.zero))

/-! ### The capture unit (08) -/

/-- RISING_EDGE (R141). -/
def execRisingEdge (m : Moment) (k : Pulse) (s : State) : Host.Outcome State Fault Refusal :=
  .next (s.event m (fun a => a.captures k) fun a => a.takeEdge k)

/-- ZERO_RATE_TIMEOUT (R144). -/
def execZeroRateTimeout (m : Moment) (k : Pulse) (s : State) : Host.Outcome State Fault Refusal :=
  .next (s.event m
    (fun a => a.captures k && ranFor (a.capture.input k).zeroTimer a.now (ms (a.cfg.zeroTimeout k)))
    fun a => a.setCapture (a.capture.setInput k (a.capture.input k).expired))

/-! ### The converter and the output stage (08, 09) -/

/-- SINGLE_CONVERSION (R149). -/
def execSingleConversion (m : Moment) (code : Byte) (s : State) : Host.Outcome State Fault Refusal :=
  .next (s.event m (fun a => a.atKind .single || a.lateDue) fun a => a.singleOrLate code)

/-- COARSE_CONVERSION (R150). -/
def execCoarseConversion (m : Moment) (code : Byte) (s : State) : Host.Outcome State Fault Refusal :=
  .next (s.event m (fun a => a.atKind .coarse) fun a => a.coarse code)

/-- FINE_CONVERSION (R151). -/
def execFineConversion (m : Moment) (code : Byte) (s : State) : Host.Outcome State Fault Refusal :=
  .next (s.event m (fun a => a.atKind .fine) fun a => a.fine code)

/-- PWM_PERIOD_START (R156). -/
def execPwmPeriodStart (m : Moment) (c : Coil) (s : State) : Host.Outcome State Fault Refusal :=
  .next (s.event m (fun a => a.pwmDue c) fun a => a.pwmStart c)

/-- COIL_OPEN_DETECT (R160): the sense conversion that completes the open condition (log 4). -/
def execCoilOpenDetect (m : Moment) (code : Byte) (s : State) : Host.Outcome State Fault Refusal :=
  .next (s.event m (fun a => a.openDue code) fun a => a.single code)

/-- SUPPLY_START (R161): the SUPPLY conversion at which the condition becomes LOW (log 4). -/
def execSupplyStart (m : Moment) (code : Byte) (s : State) : Host.Outcome State Fault Refusal :=
  .next (s.event m (fun a => a.out.supply == .normal && a.supplyAfter code == .low) fun a => a.singleOrLate code)

/-- SUPPLY_RELEASE (R161): the SUPPLY conversion at which the condition becomes NORMAL (log 4). -/
def execSupplyRelease (m : Moment) (code : Byte) (s : State) : Host.Outcome State Fault Refusal :=
  .next (s.event m (fun a => a.out.supply == .low && a.supplyAfter code == .normal) fun a => a.singleOrLate code)

end Sys2Proof.Machine
end

