-- ==== Sys2Proof/Machine/Dispatch.lean ====
section
/-! DEFINITION. The dispatch: one arm per constructor of `Instr`, each one call of the command's meaning. -/

namespace Sys2Proof.Machine

/-- The effect of a command on everything but the queue of waiting commands. -/
def exec (i : Instr) (s : State) : Host.Outcome State Fault Refusal :=
  match i with
  | .resetAssert m => Sys2Proof.Machine.execResetAssert m s
  | .resetRelease m straps => Sys2Proof.Machine.execResetRelease m straps s
  | .statusRequestAnswer m status => Sys2Proof.Machine.execStatusRequestAnswer m status s
  | .statusWaitTimeout m => Sys2Proof.Machine.execStatusWaitTimeout m s
  | .markerLengthCheck m b0 b1 length => Sys2Proof.Machine.execMarkerLengthCheck m b0 b1 length s
  | .blockReadEnd m fields crc => Sys2Proof.Machine.execBlockReadEnd m fields crc s
  | .driveStep m => Sys2Proof.Machine.execDriveStep m s
  | .pedalOnset m => Sys2Proof.Machine.execPedalOnset m s
  | .pedalRecovery m => Sys2Proof.Machine.execPedalRecovery m s
  | .stopTimingEnd m => Sys2Proof.Machine.execStopTimingEnd m s
  | .turnCompletion m => Sys2Proof.Machine.execTurnCompletion m s
  | .blindDetection m => Sys2Proof.Machine.execBlindDetection m s
  | .brushStep m first => Sys2Proof.Machine.execBrushStep m first s
  | .contactDetected m first c => Sys2Proof.Machine.execContactDetected m first c s
  | .descendTimeout m first c => Sys2Proof.Machine.execDescendTimeout m first c s
  | .lossOfContact m first c => Sys2Proof.Machine.execLossOfContact m first c s
  | .starvation m first c => Sys2Proof.Machine.execStarvation m first c s
  | .spinDownEnd m first c => Sys2Proof.Machine.execSpinDownEnd m first c s
  | .raiseTimeout m first c => Sys2Proof.Machine.execRaiseTimeout m first c s
  | .resume m first c => Sys2Proof.Machine.execResume m first c s
  | .trip m first c => Sys2Proof.Machine.execTrip m first c s
  | .stall m first c => Sys2Proof.Machine.execStall m first c s
  | .overrunOnset m first c => Sys2Proof.Machine.execOverrunOnset m first c s
  | .overrunClear m first c => Sys2Proof.Machine.execOverrunClear m first c s
  | .overrunStanding m first c => Sys2Proof.Machine.execOverrunStanding m first c s
  | .brushRecoveryDelayEnd m first c => Sys2Proof.Machine.execBrushRecoveryDelayEnd m first c s
  | .rationCapOnset m first => Sys2Proof.Machine.execRationCapOnset m first s
  | .rationCapRelease m first => Sys2Proof.Machine.execRationCapRelease m first s
  | .sprayStep m => Sys2Proof.Machine.execSprayStep m s
  | .primeTimeEnd m => Sys2Proof.Machine.execPrimeTimeEnd m s
  | .standstillHoldEnd m => Sys2Proof.Machine.execStandstillHoldEnd m s
  | .tankLowEmpty m => Sys2Proof.Machine.execTankLowEmpty m s
  | .refill m => Sys2Proof.Machine.execRefill m s
  | .dryRun m => Sys2Proof.Machine.execDryRun m s
  | .sprayRecoveryDelayEnd m => Sys2Proof.Machine.execSprayRecoveryDelayEnd m s
  | .stateFrameReceived m f => Sys2Proof.Machine.execStateFrameReceived m f s
  | .freshExpiry m station => Sys2Proof.Machine.execFreshExpiry m station s
  | .staleExpiry m station => Sys2Proof.Machine.execStaleExpiry m station s
  | .commandFrameReceived m f => Sys2Proof.Machine.execCommandFrameReceived m f s
  | .frameDiscard m f => Sys2Proof.Machine.execFrameDiscard m f s
  | .periodTimerExpiry m => Sys2Proof.Machine.execPeriodTimerExpiry m s
  | .busIdleStart m => Sys2Proof.Machine.execBusIdleStart m s
  | .arbitrationLoss m bit => Sys2Proof.Machine.execArbitrationLoss m bit s
  | .bitError m bit => Sys2Proof.Machine.execBitError m bit s
  | .sentToCompletion m => Sys2Proof.Machine.execSentToCompletion m s
  | .listenTimerEnd m => Sys2Proof.Machine.execListenTimerEnd m s
  | .clashQuietEnd m => Sys2Proof.Machine.execClashQuietEnd m s
  | .receiverWake m => Sys2Proof.Machine.execReceiverWake m s
  | .wakeWindowEnd m => Sys2Proof.Machine.execWakeWindowEnd m s
  | .modeCheck m => Sys2Proof.Machine.execModeCheck m s
  | .warmupEnd m => Sys2Proof.Machine.execWarmupEnd m s
  | .restTimerEnd m => Sys2Proof.Machine.execRestTimerEnd m s
  | .ignitionTimerEnd m => Sys2Proof.Machine.execIgnitionTimerEnd m s
  | .mode m => Sys2Proof.Machine.execMode m s
  | .direction m => Sys2Proof.Machine.execDirection m s
  | .limit m => Sys2Proof.Machine.execLimit m s
  | .brush m => Sys2Proof.Machine.execBrush m s
  | .spray m => Sys2Proof.Machine.execSpray m s
  | .clear m => Sys2Proof.Machine.execClear m s
  | .wake m => Sys2Proof.Machine.execWake m s
  | .windowTimerExpiry m src => Sys2Proof.Machine.execWindowTimerExpiry m src s
  | .risingEdge m input => Sys2Proof.Machine.execRisingEdge m input s
  | .zeroRateTimeout m input => Sys2Proof.Machine.execZeroRateTimeout m input s
  | .singleConversion m code => Sys2Proof.Machine.execSingleConversion m code s
  | .coarseConversion m code => Sys2Proof.Machine.execCoarseConversion m code s
  | .fineConversion m code => Sys2Proof.Machine.execFineConversion m code s
  | .pwmPeriodStart m out => Sys2Proof.Machine.execPwmPeriodStart m out s
  | .coilOpenDetect m code => Sys2Proof.Machine.execCoilOpenDetect m code s
  | .supplyStart m code => Sys2Proof.Machine.execSupplyStart m code s
  | .supplyRelease m code => Sys2Proof.Machine.execSupplyRelease m code s
  | .busIdle m restarted recessive => Sys2Proof.Machine.execBusIdle m restarted recessive s
  | .startBitTaken m => Sys2Proof.Machine.execStartBitTaken m s

end Sys2Proof.Machine
end

