-- ==== Sys2Proof/Safety.lean ====
section
/-! DEFINITION. What the claims about a run speak of: the moment of a command, the figures that always follow from the rest of
State, and the well-formedness that every step keeps. -/

namespace Sys2Proof.Machine

/-- The moment a command carries. -/
def moment : Instr → Moment
  | .resetAssert m | .resetRelease m _ | .statusRequestAnswer m _ | .statusWaitTimeout m | .markerLengthCheck m _ _ _
  | .blockReadEnd m _ _ | .driveStep m | .pedalOnset m | .pedalRecovery m | .stopTimingEnd m | .turnCompletion m
  | .blindDetection m | .brushStep m _ | .contactDetected m _ _ | .descendTimeout m _ _ | .lossOfContact m _ _
  | .starvation m _ _ | .spinDownEnd m _ _ | .raiseTimeout m _ _ | .resume m _ _ | .trip m _ _ | .stall m _ _
  | .overrunOnset m _ _ | .overrunClear m _ _ | .overrunStanding m _ _ | .brushRecoveryDelayEnd m _ _
  | .rationCapOnset m _ | .rationCapRelease m _ | .sprayStep m | .primeTimeEnd m | .standstillHoldEnd m
  | .tankLowEmpty m | .refill m | .dryRun m | .sprayRecoveryDelayEnd m | .stateFrameReceived m _ | .freshExpiry m _
  | .staleExpiry m _ | .commandFrameReceived m _ | .frameDiscard m _ | .periodTimerExpiry m | .busIdleStart m
  | .arbitrationLoss m _ | .bitError m _ | .sentToCompletion m | .listenTimerEnd m | .clashQuietEnd m | .receiverWake m
  | .wakeWindowEnd m | .modeCheck m | .warmupEnd m | .restTimerEnd m | .ignitionTimerEnd m | .mode m | .direction m
  | .limit m | .brush m | .spray m | .clear m | .wake m | .windowTimerExpiry m _ | .risingEdge m _ | .zeroRateTimeout m _
  | .singleConversion m _ | .coarseConversion m _ | .fineConversion m _ | .pwmPeriodStart m _ | .coilOpenDetect m _
  | .supplyStart m _ | .supplyRelease m _ | .busIdle m _ _ | .startBitTaken m => m

/-- The command is RESET_ASSERT. -/
def isReset : Instr → Bool
  | .resetAssert _ => true
  | _ => false

/-- The command is CLEAR. -/
def isClear : Instr → Bool
  | .clear _ => true
  | _ => false

/-- The command is the row of a kind of command that the operator sends, taken from the queue. -/
def isTakeRow : Instr → Bool
  | .mode _ | .direction _ | .limit _ | .brush _ | .spray _ | .clear _ | .wake _ => true
  | _ => false

/-- The take of the head is the only one until a row's moment: no time passes to it, or no other entry is takeable after the
take (R132, log 25). -/
def State.takesAlone (s : State) (m : Moment) : Prop := m.dt = 0 ∨ s.takeOne.takeable = false

/-! ### The figures that follow (R134, R139, R158, R107) -/

/-- The own cap, the standing contributions, the count of silent expected peers, FAULT_LAMP and forcing are what their rules make
of the rest of State. -/
structure State.Settled (s : State) : Prop where
  contrib : s.ctl.contrib = s.contributions
  cap     : s.ctl.ownCap = s.composeCap
  silent  : s.ctl.silentCount = s.silentExpected
  lamp    : s.out.faultLamp = s.lampLevel
  forcing : s.out.forcing = s.forcingOn

/-! ### Well-formedness, block by block -/

/-- The mode controller: at most one record per source (R135), at most 4 commands waiting (R131), counts of at most 3 (R136),
discard numbers of one byte (R131), an operator limit of at most 4000 (R133) and a spray rate of 5 to 100 (R133). -/
structure Controller.Wf (x : Controller) : Prop where
  sources : (x.faults.map Record.source).Nodup
  queue   : x.queue.length ≤ 4
  counts  : ∀ k, (x.recovery k).count ≤ 3
  discard : x.discard < 256
  limit   : x.limit ≤ 4000
  rate    : 5 ≤ x.sprayRate ∧ x.sprayRate ≤ 100

/-- The link: outside ACTIVE no frame is pending, no period runs and a frame in flight is only being finished; the abandon
count stays below 8 (R110, R111, R116, R117). -/
structure Link.Wf (l : Link) : Prop where
  pending : l.state ≠ .active → l.pending = none
  period  : l.state ≠ .active → l.periodTimer = none
  flight  : l.state ≠ .active → l.inFlight ≠ none → l.finishing = true
  abandons : l.abandons < 8

/-- The output stage: LIFT and FLOAT of one arm never together (R28), one drive coil shadow at most above 0 (R10), and while
forcing stands no proportional output runs and no open timer does (R158, R160). -/
structure Outputs.Wf (o : Outputs) : Prop where
  arm0   : ¬(o.lift0 = true ∧ o.float0 = true)
  arm1   : ¬(o.lift1 = true ∧ o.float1 = true)
  drive  : o.driveF.shadow = 0 ∨ o.driveR.shadow = 0
  forced : o.forcing = true → ∀ c, (o.coil c).running = false ∧ (o.coil c).openTimer = none

/-- A pulse input: at most 4 periods; without periods its rate is 0; with the zero-rate indication set it is stopped and empty
(R143 to R146). -/
structure PulseInput.Wf (x : PulseInput) : Prop where
  history : x.history.length ≤ 4
  empty   : x.history = [] → x.rate = 0
  zero    : x.zeroRate = true → x.history = [] ∧ x.reference = none ∧ x.zeroTimer = none

/-- The capture unit: every input is well formed. -/
def Capture.Wf (c : Capture) : Prop := ∀ k, (c.input k).Wf

/-- The peer table keeps its 14 places in station order (05, section 5.1), a record that is ABSENT holds no fields, and ages run
in FRESH and STALE only (R93 to R98). -/
structure State.PeersWf (s : State) : Prop where
  places : s.peers.map Peer.station = [1, 2, 3, 4, 5, 6, 7, 8, 9, 10, 11, 12, 13, 14]
  absent : ∀ p ∈ s.peers, p.fresh = .absent → p.fields = none ∧ p.period = none
  ages   : ∀ p ∈ s.peers, p.age.isSome = p.fresh.heard

/-! ### Families of commands -/

/-- The drive step and its timed rows. -/
def isDriveRow : Instr → Bool
  | .driveStep _ | .pedalOnset _ | .pedalRecovery _ | .stopTimingEnd _ | .turnCompletion _ | .blindDetection _ => true
  | _ => false

/-- The brush step and its timed rows, the ration cap's among them. -/
def isBrushRow : Instr → Bool
  | .brushStep _ _ | .contactDetected _ _ _ | .descendTimeout _ _ _ | .lossOfContact _ _ _ | .starvation _ _ _
  | .spinDownEnd _ _ _ | .raiseTimeout _ _ _ | .resume _ _ _ | .trip _ _ _ | .stall _ _ _ | .overrunOnset _ _ _
  | .overrunClear _ _ _ | .overrunStanding _ _ _ | .brushRecoveryDelayEnd _ _ _ | .rationCapOnset _ _
  | .rationCapRelease _ _ => true
  | _ => false

/-- The spray step and its timed rows. -/
def isSprayRow : Instr → Bool
  | .sprayStep _ | .primeTimeEnd _ | .standstillHoldEnd _ | .tankLowEmpty _ | .refill _ | .dryRun _
  | .sprayRecoveryDelayEnd _ => true
  | _ => false

/-- The link's rows that post nothing, take no command and leave the link state's frames to the builder alone. -/
def isLinkRow : Instr → Bool
  | .frameDiscard _ _ | .periodTimerExpiry _ | .busIdleStart _ | .arbitrationLoss _ _ | .receiverWake _ | .wakeWindowEnd _
  | .busIdle _ _ _ | .startBitTaken _ => true
  | _ => false

/-! ### What a family leaves alone -/

/-- The mode controller without its fault list and the figures that follow from the rest of State. -/
def Controller.bare (x : Controller) : Controller :=
  { x with faults := [], contrib := .empty, ownCap := 0, silentCount := 0 }

/-- A proportional output without what forcing stops. -/
def CoilOut.bare (x : CoilOut) : CoilOut := { x with running := false, openTimer := none }

/-- The output stage without the lamp and without forcing and what it stops. -/
def Outputs.bare (o : Outputs) : Outputs :=
  { o with
    faultLamp := false, forcing := false, driveF := o.driveF.bare, driveR := o.driveR.bare, brush0 := o.brush0.bare,
    brush1 := o.brush1.bare, pump := o.pump.bare }

/-- The output stage without what the drive writes. -/
def Outputs.butDrive (o : Outputs) : Outputs :=
  { o.bare with
    driveF := { o.bare.driveF with shadow := 0 }, driveR := { o.bare.driveR with shadow := 0 }, parkRelease := false,
    boost := false }

/-- The output stage without what the brush channels write, and without BOOST, which the ration step evaluates. -/
def Outputs.butArms (o : Outputs) : Outputs :=
  { o.bare with
    brush0 := { o.bare.brush0 with shadow := 0 }, brush1 := { o.bare.brush1 with shadow := 0 }, lift0 := false,
    float0 := false, lift1 := false, float1 := false, boost := false }

/-- The output stage without what the spray channel writes. -/
def Outputs.butSpray (o : Outputs) : Outputs :=
  { o.bare with
    pump := { o.bare.pump with shadow := 0 }, nozzle1 := false, nozzle2 := false, nozzle3 := false, nozzle4 := false }

/-- The blocks that no channel's step touches: the loader, the peer table, the link, the capture unit, the converter. -/
structure SameBlocks (s t : State) : Prop where
  loader   : t.loader = s.loader
  tableOwn : t.tableOwn = s.tableOwn
  peers    : t.peers = s.peers
  link     : t.link = s.link
  capture  : t.capture = s.capture
  conv     : t.conv = s.conv

/-- Forcing, and of every proportional output what it stops. -/
structure SameForcing (o p : Outputs) : Prop where
  forcing : p.forcing = o.forcing
  coils   : ∀ c, (p.coil c).running = (o.coil c).running ∧ (p.coil c).openTimer = (o.coil c).openTimer

/-- The four channels and the ration unit. -/
structure SameChannels (s t : State) : Prop where
  drive  : t.drive = s.drive
  brush0 : t.brush0 = s.brush0
  brush1 : t.brush1 = s.brush1
  ration : t.ration = s.ration
  spray  : t.spray = s.spray

/-- The converter's result table after one entry has been written: the entry of the input that the conversion `k` reads is `e`, and
the other ten are as they were. -/
structure WroteEntry (x y : Converter) (k : Slot) (e : Entry) : Prop where
  pedalA    : y.pedalA = if k = .pedalA then e else x.pedalA
  pedalB    : y.pedalB = if k = .pedalB then e else x.pedalB
  press0    : y.press0 = if k = .press0Fine then e else x.press0
  press1    : y.press1 = if k = .press1Fine then e else x.press1
  tank      : y.tank = if k = .tank then e else x.tank
  supply    : y.supply = if k = .supply then e else x.supply
  senseDF   : y.senseDF = if k = .senseDF then e else x.senseDF
  senseDR   : y.senseDR = if k = .senseDR then e else x.senseDR
  senseB0   : y.senseB0 = if k = .senseB0 then e else x.senseB0
  senseB1   : y.senseB1 = if k = .senseB1 then e else x.senseB1
  sensePump : y.sensePump = if k = .sensePump then e else x.sensePump

/-! ### Places of an arm, its outputs, and a brush fault -/

/-- The place of an arm's overrun cap. -/
def Contributions.overrunOf (x : Contributions) : Chan → Option Nat
  | .c0 => x.overrun0
  | .c1 => x.overrun1

/-- The place of the contribution for an arm down in transport. -/
def Contributions.transportOf (x : Contributions) : Chan → Option Nat
  | .c0 => x.transport0
  | .c1 => x.transport1

/-- The place of the contribution for an arm down after a fault. -/
def Contributions.afterFaultOf (x : Contributions) : Chan → Option Nat
  | .c0 => x.afterFault0
  | .c1 => x.afterFault1

/-- LIFT of an arm. -/
def Outputs.lift (o : Outputs) : Chan → Bool
  | .c0 => o.lift0
  | .c1 => o.lift1

/-- FLOAT of an arm. -/
def Outputs.float (o : Outputs) : Chan → Bool
  | .c0 => o.float0
  | .c1 => o.float1

/-- Both arm valves inactive and the motor valve's shadow 0 (R28). -/
def Outputs.armOff (o : Outputs) (c : Chan) : Prop :=
  o.lift c = false ∧ o.float c = false ∧ (o.coil (valveOf c)).shadow = 0

/-- A brush channel's fault has been posted by the common latching rule from a source with no record or a RECOVERING one: an
ACTIVE record and FAULT below a count of 3, a LATCHED record and LATCHED at 3, the arm off in either (R47, R135). -/
def BrushFaulted (s t : State) (c : Chan) (code : FaultCode) : Prop :=
  let k := countedOf c
  let n := (s.ctl.recovery k).count
  t.out.armOff c ∧ (t.brush c).code = some code ∧ (t.ctl.recovery k).window = some t.now ∧
    (n < 3 →
      (t.brush c).state = .fault ∧ (t.brush c).recoveryTimer = some t.now ∧ (t.ctl.recovery k).count = n + 1 ∧
        t.ctl.record (sourceOf k) = some { source := sourceOf k, code := code, state := .active }) ∧
    (n = 3 →
      (t.brush c).state = .latched ∧ (t.ctl.recovery k).count = n ∧
        t.ctl.record (sourceOf k) = some { source := sourceOf k, code := code, state := .latched })

/-- The source of a brush channel can post anew: it has no record, or a RECOVERING one. -/
def State.brushCanPost (s : State) (c : Chan) : Prop :=
  s.ctl.recordState (sourceOf (countedOf c)) = none ∨ s.ctl.recordState (sourceOf (countedOf c)) = some .recovering

/-- The spray channel's fault has been posted by the common latching rule from a source with no record or a RECOVERING one, the pump
at 0 and the groups closed (R85, R135). -/
def SprayFaulted (s t : State) (code : FaultCode) : Prop :=
  let n := s.ctl.sprayCount.count
  t.spray.code = some code ∧ t.spray.opened = [] ∧ t.out.pump.shadow = 0 ∧ t.ctl.sprayCount.window = some t.now ∧
    (n < 3 →
      t.spray.state = .fault ∧ t.spray.recoveryTimer = some t.now ∧ t.ctl.sprayCount.count = n + 1 ∧
        t.ctl.record .spray = some { source := .spray, code := code, state := .active }) ∧
    (n = 3 →
      t.spray.state = .latched ∧ t.ctl.sprayCount.count = n ∧
        t.ctl.record .spray = some { source := .spray, code := code, state := .latched })

/-- The owner of an output has taken a coil report in the state in which it stood (R18, R50, R88). -/
def CoilReported (s t : State) (c : Coil) (code : FaultCode) : Prop :=
  let drive : Prop :=
    (s.drive.state = .standstill ∨ s.drive.state = .driving ∨ s.drive.state = .turning ∨ s.drive.state = .held →
      t.drive.state = .latched ∧ t.drive.coilLatch = true ∧ t.drive.ramp = 0 ∧ t.drive.integ = 0 ∧ t.drive.prevRaw = 0 ∧
        t.drive.hold = none ∧ t.out.driveF.shadow = 0 ∧ t.out.driveR.shadow = 0 ∧ t.out.parkRelease = false ∧
        t.ctl.ownCap = 0) ∧
    (s.drive.state = .latched → t.drive = s.drive) ∧
    (s.drive.state = .yielded → t.drive = { s.drive with coilLatch := true }) ∧
    (s.drive.state ≠ .disabled → t.ctl.record .drive = some { source := .drive, code := code, state := .latched }) ∧
    (s.drive.state = .disabled → t.drive = s.drive ∧ t.ctl.faults = s.ctl.faults)
  let brush (x : Chan) : Prop :=
    ((s.brush x).state = .stowed ∨ (s.brush x).state = .descending ∨ (s.brush x).state = .sweeping ∨
        (s.brush x).state = .raising ∨ (s.brush x).state = .waiting →
      s.brushCanPost x → BrushFaulted s t x code) ∧
    ((s.brush x).state = .disabled ∨ (s.brush x).state = .held ∨ (s.brush x).state = .fault ∨
        (s.brush x).state = .latched →
      t.brush x = s.brush x ∧ t.ctl.faults = s.ctl.faults)
  match c with
  | .driveF => drive
  | .driveR => drive
  | .brush0 => brush .c0
  | .brush1 => brush .c1
  | .pump =>
    (s.spray.state = .off ∨ s.spray.state = .priming ∨ s.spray.state = .spraying ∨ s.spray.state = .paused ∨
        s.spray.state = .empty →
      s.ctl.recordState .spray = none ∨ s.ctl.recordState .spray = some .recovering → SprayFaulted s t code) ∧
    (s.spray.state = .disabled ∨ s.spray.state = .held ∨ s.spray.state = .fault ∨ s.spray.state = .latched →
      t.spray = s.spray ∧ t.ctl.faults = s.ctl.faults)

/-! ### The STATE frame's ranges (11, section 11.2) -/

/-- A STATE frame whose values fit the layout and whose reports are at most as many as a Mirchol 3640 sends. -/
structure StateFrame.Fits (f : StateFrame) : Prop where
  station : f.station < 16
  mode    : f.mode < 16
  period  : f.period < 8
  cap     : f.cap < 65536
  pace    : ∀ v, f.pace = some v → -32768 ≤ v ∧ v < 32768
  budget  : ∀ v, f.budget = some v → v < 65536
  demand  : ∀ v, f.demand = some v → v < 65536
  brushes : f.brushes.length ≤ 2 ∧ ∀ r ∈ f.brushes, r.channel < 4 ∧ r.state < 16
  spray   : ∀ r, f.spray = some r → r.state < 8 ∧ ∃ n, r.opened = groupsOf n
  faults  : f.faults.length ≤ 7 ∧ ∀ e ∈ f.faults, e.source < 8 ∧ e.state < 4 ∧ e.code < 256

/-! ### The image's ranges (R168) -/

/-- A brush channel's record is within the ranges the manual states. -/
structure BrushCfg.InRange (b : BrushCfg) : Prop where
  codes  : b.enable ≤ 1 ∧ b.contactMode ≤ 2 ∧ b.limitMode ≤ 1
  motor  : 50 ≤ b.vm ∧ b.vm ≤ 500 ∧ 500 ≤ b.etaM ∧ b.etaM ≤ 1000 ∧ b.blindRpm ≤ 600
  levels : b.contactLevel ≤ 2500 ∧ b.lossLevel ≤ 2500 ∧ 200 ≤ b.pLim ∧ b.pLim ≤ 3000
  times  : 50 ≤ b.tContact ∧ b.tContact ≤ 500 ∧ 200 ≤ b.tLoss ∧ b.tLoss ≤ 2000 ∧ 50 ≤ b.tTrip ∧ b.tTrip ≤ 1000 ∧
             1000 ≤ b.tHoldMax ∧ b.tHoldMax ≤ 20000 ∧ b.spinDown ≤ 3000
  arms   : 1000 ≤ b.descendTimeout ∧ b.descendTimeout ≤ 10000 ∧ 1000 ≤ b.raiseTimeout ∧ b.raiseTimeout ≤ 10000
  valve  : b.valveOffset ≤ 500 ∧ 10 ≤ b.valveGain ∧ b.valveGain ≤ 1000
  inputs : b.pulses ≤ 60 ∧ 1000 ≤ b.span ∧ b.span ≤ 4000 ∧ 100 ≤ b.zeroTimeout ∧ b.zeroTimeout ≤ 1000
  count  : 2 ≤ b.pointCount ∧ b.pointCount ≤ 6
  sched  : b.enable = 1 → 2 ≤ b.points.length ∧ b.points.head?.map Prod.fst = some 0 ∧
             (b.points.map Prod.fst).Pairwise (· < ·) ∧ ∀ p ∈ b.points, p.1 ≤ 4000 ∧ p.2 ≤ 600

/-- The drive record is within the ranges the manual states. -/
structure DriveCfg.InRange (d : DriveCfg) : Prop where
  enable : d.enable ≤ 1
  caps   : d.transportCap ≤ 4000 ∧ d.sweepCap ≤ 4000 ∧ d.creepDuty ≤ 1000
  wheel  : 1000 ≤ d.tooth ∧ d.tooth ≤ 60000 ∧ 100 ≤ d.wheelTimeout ∧ d.wheelTimeout ≤ 1000
  ramp   : 25 ≤ d.reverseRatio ∧ d.reverseRatio ≤ 100 ∧ 1 ≤ d.aUp ∧ d.aUp ≤ 50 ∧ 1 ≤ d.aDn ∧ d.aDn ≤ 100 ∧
             10 ≤ d.aStop ∧ d.aStop ≤ 200
  gains  : d.kp ≤ 500 ∧ d.ki ≤ 200 ∧ d.iMax ≤ 300 ∧ d.uMin ≤ 400 ∧ 1000 ≤ d.paceFull ∧ d.paceFull ≤ 4000
  pedal  : 20 ≤ d.tolerance ∧ d.tolerance ≤ 200 ∧ d.deadLo ≤ 200 ∧ 800 ≤ d.deadHi ∧ d.deadHi ≤ 1000
  engine : 1 ≤ d.enginePulses ∧ d.enginePulses ≤ 200 ∧ 5 ≤ d.va ∧ d.va ≤ 100 ∧ 500 ≤ d.etaA ∧ d.etaA ≤ 1000 ∧
             100 ≤ d.engineTimeout ∧ d.engineTimeout ≤ 1000
  boost  : 700 ≤ d.boostThreshold ∧ d.boostThreshold ≤ 1000 ∧ 1000 ≤ d.boostHold ∧ d.boostHold ≤ 10000

/-- The spray record is within the ranges the manual states. -/
structure SprayCfg.InRange (x : SprayCfg) : Prop where
  codes  : x.enable ≤ 1 ∧ x.drySweep ≤ 1
  rate   : 5 ≤ x.rate ∧ x.rate ≤ 100 ∧ x.dustCap ≤ 2000
  flow   : 500 ≤ x.qMin ∧ x.qMin ≤ 5000 ∧ 2000 ≤ x.qMax ∧ x.qMax ≤ 60000
  pump   : x.pumpOffset ≤ 400 ∧ 10 ≤ x.pumpGain ∧ x.pumpGain ≤ 1000
  inputs : 100 ≤ x.pulsesPerLitre ∧ x.pulsesPerLitre ≤ 2000 ∧ x.tankLow ≤ 50 ∧ 100 ≤ x.flowTimeout ∧ x.flowTimeout ≤ 1000
  times  : x.standstillHold ≤ 10000 ∧ 500 ≤ x.primeTime ∧ x.primeTime ≤ 5000
  groups : ∀ g ∈ x.groups, g.enabled ≤ 1 ∧ 20 ≤ g.width ∧ g.width ≤ 300 ∧ g.kind ≤ 2 ∧
             (g.kind = 2 → 1 ≤ g.station ∧ g.station ≤ 14 ∧ g.channel ≤ 1) ∧ (g.kind = 1 → g.channel ≤ 1)

end Sys2Proof.Machine
end

