-- ==== Sys2Proof/Certificates/Slice0/Obligations.lean ====
section
/-! DEFINITION. The statements for the provers. `m` is the moment of the command, and `s.arrive m` the state as the command
finds it: the time passed, the switched inputs shown. A statement about a command that is no take has the premise
`s.takeable = false`: nothing waits at the head of the queue that R132 takes as soon as it is takeable. What any other state comes
to, `CommandFramesReachTheQueue` says: what is takeable is taken first, and the state so reached meets the premise. -/

open Sys2Proof Sys2Proof.Machine

/-! ### The machine -/

/-- A step runs the command at the front of the queue on the state with the queue's rest. -/
def Obligations.StepRunsTheFrontCommand : Prop :=
  ∀ (c : Instr) (rest : List Instr) (s : State),
    s.pending = c :: rest → step s = exec c { s with pending := rest }

/-- Every command answers a next state, leaves the queue of commands as it is, and takes place at its moment (the model's own
form, logs 1, 3, 6 and 8; after RESET_ASSERT the time base stands at 0). -/
def Obligations.EveryCommandAnswersAtItsMoment : Prop :=
  ∀ (i : Instr) (s : State), ∃ t, exec i s = .next t ∧ t.pending = s.pending ∧ t.pins = (moment i).pins ∧
    t.now = if isReset i then 0 else s.now + (moment i).dt

/-- The own cap (R134), the standing contributions, FAULT_LAMP (R139), forcing (R158) and the count of silent expected peers
(R107) are, after every step, what their rules make of the rest of State. The own cap is 0 while a SUPPLY record stands, else the
least of the mode cap, the operator limit and every contribution that stands; the lamp is lit, outside STANDBY, by a record or by a
silent expected peer; forcing is on in STANDBY, in WARMUP and during a SUPPLY condition. -/
def Obligations.FollowingFiguresKeptByEveryStep : Prop :=
  (∀ s t : State, s.Settled → step s = .next t → t.Settled) ∧
  ∀ s : State, s.Settled →
    let modeCap : Nat :=
      match s.ctl.mode with
      | .limp => 300
      | .transport => s.cfg.drive.transportCap
      | .sweep | .stowing => s.cfg.drive.sweepCap
      | .unset | .warmup | .parked | .parking | .shutdown | .standby => 0
    let figures : List Nat :=
      [modeCap, s.ctl.limit] ++ (if s.drive.state = .latched then [0] else []) ++
        (if s.brush0.overrun = true then [s.brush0.overrunCap] else []) ++
        (if s.brush1.overrun = true then [s.brush1.overrunCap] else []) ++
        s.ctl.contrib.transport0.toList ++ s.ctl.contrib.transport1.toList ++ s.ctl.contrib.afterFault0.toList ++
        s.ctl.contrib.afterFault1.toList ++ s.ctl.contrib.ration.toList ++
        (if (s.spray.state = .empty ∨ s.spray.state = .latched) ∧ s.cfg.spray.drySweep = 0 then [s.cfg.spray.dustCap]
          else [])
    ((∃ r ∈ s.ctl.faults, r.source = .supply) → s.ctl.ownCap = 0) ∧
    ((∀ r ∈ s.ctl.faults, r.source ≠ .supply) → s.ctl.ownCap ∈ figures ∧ ∀ v ∈ figures, s.ctl.ownCap ≤ v) ∧
    (s.out.faultLamp = true ↔
      s.ctl.mode ≠ .standby ∧
        (s.ctl.faults ≠ [] ∨
          ∃ p ∈ s.peers, s.tableOwn ≠ some p.station ∧ p.expected = true ∧ p.fresh = .silent)) ∧
    (s.out.forcing = true ↔ s.ctl.mode = .standby ∨ s.ctl.mode = .warmup ∨ s.out.supply = .low) ∧
    s.ctl.silentCount =
      (s.peers.filter fun p => s.tableOwn != some p.station && p.expected && p.fresh == .silent).length

/-- The command queue, the fault list's one record per source, the counts and the operator's settings stay in their bounds at
every step (R131, R133, R135, R136). -/
def Obligations.ControllerBoundsKeptByEveryStep : Prop :=
  ∀ s t : State, s.ctl.Wf → step s = .next t → t.ctl.Wf

/-- Outside ACTIVE nothing is pending, no period runs and a frame in flight is only finished, at every step (06, section
6.4). -/
def Obligations.LinkQuietOutsideActiveKeptByEveryStep : Prop :=
  ∀ s t : State, s.link.Wf → step s = .next t → t.link.Wf

/-- LIFT and FLOAT of one arm are never set together, at most one drive coil has a duty written, and forcing holds every
proportional output, at every step (R10, R28, R158). -/
def Obligations.OutputExclusionsKeptByEveryStep : Prop :=
  ∀ s t : State, s.out.Wf → step s = .next t → t.out.Wf

/-- The histories of the pulse inputs and the places and ages of the peer table keep their form at every step (R92 to R98, R140
to R146). -/
def Obligations.CaptureAndPeersFormKeptByEveryStep : Prop :=
  ∀ s t : State, s.capture.Wf → s.PeersWf → step s = .next t → t.capture.Wf ∧ t.PeersWf

/-- All the forms that the steps keep hold at reset. -/
def Obligations.ResetMeetsEveryForm : Prop :=
  State.reset.Settled ∧ State.reset.ctl.Wf ∧ State.reset.link.Wf ∧ State.reset.out.Wf ∧ State.reset.capture.Wf ∧
    State.reset.PeersWf

/-- Whatever the command, a LATCHED record of a source other than SUPPLY, which is never latched, stays LATCHED unless a CLEAR is
taken or the command is RESET_ASSERT; and a LATCHED CONFIG record stays unless it is RESET_ASSERT. A CLEAR is taken by its own row,
or, when it is takeable, before the effect of another (DEDUCED, log 25). -/
def Obligations.LatchedRecordsStandUntilClear : Prop :=
  ∀ (i : Instr) (s t : State) (src : Source), exec i s = .next t → isReset i = false → src ≠ .supply →
    (src = .config ∨ (isClear i = false ∧ s.takeable = false) ∨ ∀ c ∈ s.ctl.queue, c.kind ≠ .clear) →
      s.ctl.recordState src = some .latched → t.ctl.recordState src = some .latched

/-- A STATE frame that fits the layout, built, sent with its CRC and checked by a receiver, is taken with every field as it was
sent. -/
def Obligations.StateFrameReadsBackAsSent : Prop :=
  ∀ f : StateFrame, f.Fits → frameFate f.onBus = .state f

/-! ### The configuration loader -/

/-- RESET_ASSERT returns every block to its reset values, whatever it was doing; the inputs show what they show. The reset
values the spec does not give are those of logs 6, 8 and 10. -/
def Obligations.ResetAssertReturnsEveryBlock : Prop :=
  ∀ (m : Moment) (s : State), ∃ t, exec (.resetAssert m) s = .next t ∧
    t.loader = Loader.reset ∧ t.drive = Drive.reset ∧ t.brush0 = Brush.reset ∧ t.brush1 = Brush.reset ∧
    t.ration = Ration.reset ∧ t.spray = Spray.reset ∧ t.tableOwn = none ∧ t.peers = peersReset ∧ t.link = Link.reset ∧
    t.ctl = Controller.reset ∧ t.capture = Capture.reset ∧ t.conv = Converter.reset ∧ t.out = Outputs.reset

/-- RESET_RELEASE samples the straps and starts the converter scan. A number of 1 to 14 starts the status request and its 10 ms
wait; 0 and 15 end the load as ILLEGAL_STRAP: LIMP, a LATCHED CONFIG STRAP record, the link left as it is. That the status
request follows in the same event is the model's reading (log 33). -/
def Obligations.ResetReleaseSamplesTheStraps : Prop :=
  ∀ (m : Moment) (straps : BitVec 4) (s : State), s.takeable = false → s.loader.resetHeld = true →
    ∃ t, exec (.resetRelease m straps) s = .next t ∧ t.loader.station = straps.toNat ∧ t.loader.resetHeld = false ∧
      t.conv.place = some .pedalA ∧ SameChannels s t ∧ t.peers = s.peers ∧ t.link = s.link ∧ t.capture = s.capture ∧
      (1 ≤ straps.toNat ∧ straps.toNat ≤ 14 →
        t.loader.state = .reading ∧ t.loader.statusWait = some t.now ∧ t.loader.spiSent = [0x05#8] ∧
          t.loader.outcome = s.loader.outcome ∧ t.ctl.bare = s.ctl.bare ∧ t.ctl.faults = s.ctl.faults) ∧
      (straps.toNat = 0 ∨ straps.toNat = 15 →
        t.loader.state = .done ∧ t.loader.outcome = .illegalStrap ∧ t.loader.image = none ∧ t.ctl.mode = .limp ∧
          t.ctl.standbyReturn = .limp ∧
          t.ctl.record .config = some { source := .config, code := .strap, state := .latched })

/-- While the status wait runs, a ready status (bit 0 clear) ends it and sends the read request for address 0, and a busy one is
asked again; the marker 5Ah 36h with a length of 245 to 251 is accepted. Nothing but the loader changes. A status answer is
taken while the wait runs; the bits on the SPI lines are the request's bytes (DESIGN CHOICE, log 33). -/
def Obligations.StatusAndMarkerAreAnswered : Prop :=
  (∀ (m : Moment) (status : Byte) (s : State) (b : Micros), s.takeable = false →
    s.Settled → s.out.Wf → s.loader.state = .reading →
    s.loader.statusWait = some b → s.now + m.dt ≤ b + 10000 →
      ∃ l, exec (.statusRequestAnswer m status) s = .next ((s.arrive m).setLoader l) ∧ l.state = .reading ∧
        (status.toNat % 2 = 0 → l.statusWait = none ∧ l.spiSent = [0x03#8, 0x00#8]) ∧
        (status.toNat % 2 = 1 → l.statusWait = some b ∧ l.spiSent = [0x05#8])) ∧
  (∀ (m : Moment) (length : Byte) (s : State), s.takeable = false → s.Settled → s.out.Wf → s.loader.state = .reading →
    s.loader.spiSent = [0x03#8, 0x00#8] → s.loader.length = none → 245 ≤ length.toNat → length.toNat ≤ 251 →
      exec (.markerLengthCheck m 0x5A#8 0x36#8 length) s =
        .next ((s.arrive m).setLoader { s.loader with length := some length.toNat }))

/-- A load that fails, by no ready status in 10 ms, a wrong marker, a wrong length or a wrong CRC, ends in LIMP with its code
LATCHED as CONFIG record, no image, the clamped flag clear, the spray rate at 20 and the link ACTIVE with a first frame built. -/
def Obligations.FailedLoadsEnterLimp : Prop :=
  let failed (s t : State) (code : FaultCode) : Prop :=
    t.loader.state = .done ∧ t.loader.outcome = .failed ∧ t.loader.image = none ∧ t.loader.clamped = false ∧
      t.loader.station = s.loader.station ∧ t.ctl.mode = .limp ∧ t.ctl.standbyReturn = .limp ∧ t.ctl.sprayRate = 20 ∧
      t.ctl.record .config = some { source := .config, code := code, state := .latched } ∧ t.link.state = .active ∧
      (s.link.state ≠ .active → t.link.pending.isSome = true ∧ t.link.periodTimer = some t.now) ∧ SameChannels s t
  (∀ (m : Moment) (s : State) (b : Micros), s.takeable = false → s.loader.state = .reading → s.loader.statusWait = some b →
    b + 10000 ≤ s.now + m.dt → ∃ t, exec (.statusWaitTimeout m) s = .next t ∧ failed s t .noMemory) ∧
  (∀ (m : Moment) (b0 b1 length : Byte) (s : State), s.takeable = false → s.loader.state = .reading →
    s.loader.spiSent = [0x03#8, 0x00#8] → s.loader.length = none → ¬(b0 = 0x5A#8 ∧ b1 = 0x36#8) →
      ∃ t, exec (.markerLengthCheck m b0 b1 length) s = .next t ∧ failed s t .badMarker) ∧
  (∀ (m : Moment) (length : Byte) (s : State), s.takeable = false →
    s.loader.state = .reading → s.loader.spiSent = [0x03#8, 0x00#8] →
    s.loader.length = none → length.toNat < 245 ∨ 251 < length.toNat →
      ∃ t, exec (.markerLengthCheck m 0x5A#8 0x36#8 length) s = .next t ∧ failed s t .badLength) ∧
  (∀ (m : Moment) (fields : List Byte) (high low : Byte) (s : State), s.takeable = false → s.loader.state = .reading →
    s.loader.length = some fields.length → blockCrcMatches fields high low = false →
      ∃ t, exec (.blockReadEnd m fields (high, low)) s = .next t ∧ failed s t .badCrc)

/-- A block whose CRC matches ends the load GOOD: WARMUP with its timer started, the image and the clamped flag of the block, the
enabled channels out of DISABLED, the expected peers SILENT, every PWM period started at a duty of its shadow, and the link
ACTIVE with a first frame built. The CRC matches when the CRC-16 over marker, length and field bytes has the first of the two
bytes as its high byte and the second as its low one. The image and the flag take the caps and the creep duty as clamped to the
ranges of the units table (DEDUCED, log 13), and the flag counts unused schedule points too (DESIGN CHOICE, log 14). -/
def Obligations.GoodLoadStartsTheStation : Prop :=
  (∀ (fields : List Byte) (high low : Byte),
    let crc := (crc16 (([0x5A#8, 0x36#8, BitVec.ofNat 8 fields.length] ++ fields).flatMap fun b => bitsOf 8 b.toNat)).toNat
    (blockCrcMatches fields high low = true ↔ high.toNat = crc / 256 ∧ low.toNat = crc % 256)) ∧
  ∀ (m : Moment) (fields : List Byte) (high low : Byte) (s : State), s.takeable = false → s.loader.state = .reading →
    s.loader.length = some fields.length → blockCrcMatches fields high low = true →
      ∃ t, exec (.blockReadEnd m fields (high, low)) s = .next t ∧ t.loader.state = .done ∧ t.loader.outcome = .good ∧
        t.loader.image = some (loadImage fields) ∧ t.loader.clamped = loadClamped fields ∧ t.ctl.mode = .warmup ∧
        t.ctl.standbyReturn = .warmup ∧ t.ctl.warmupTimer = some t.now ∧
        t.ctl.sprayRate = (loadImage fields).spray.rate ∧
        (loadShort fields = true →
          t.ctl.record .config = some { source := .config, code := .schedule, state := .latched }) ∧
        (loadShort fields = false → t.ctl.faults = s.ctl.faults) ∧
        t.drive.state = (if (loadImage fields).drive.enable = 1 then .standstill else .disabled) ∧
        t.brush0.state = (if (loadImage fields).brush0.enable = 1 then .stowed else .disabled) ∧
        t.brush1.state = (if (loadImage fields).brush1.enable = 1 then .stowed else .disabled) ∧
        t.spray.state = (if (loadImage fields).spray.enable = 1 then .off else .disabled) ∧
        t.tableOwn = some s.loader.station ∧
        (∀ p ∈ t.peers, p.fields = none ∧
          p.fresh = if p.station ∈ (loadImage fields).general.expected ∧ p.station ≠ s.loader.station then .silent
            else .absent) ∧
        t.link.state = .active ∧ (s.link.state ≠ .active → t.link.pending.isSome = true) ∧
        ∀ c, (t.out.coil c).start = some t.now ∧ (t.out.coil c).duty = (s.out.coil c).shadow

/-- Whatever a block holds, every field of the image loaded from it that has a range is within it, and the schedule of each channel
that stays enabled has two points or more, the first at pace 0, with ascending paces. The ranges of the caps and the creep duty
are those of the units table (DEDUCED, log 13); the points are those the channel uses, clamped like the unused ones (DESIGN
CHOICE, log 14). -/
def Obligations.LoadedImageIsInRange : Prop :=
  ∀ fields : List Byte,
    let i := loadImage fields
    1 ≤ i.general.periodCode ∧ i.general.periodCode ≤ 5 ∧ (∀ n ∈ i.general.expected, 1 ≤ n ∧ n ≤ 14) ∧
      i.general.staleCap ≤ 1000 ∧ 500 ≤ i.general.warmup ∧ i.general.warmup ≤ 10000 ∧ i.general.voltage ≤ 1 ∧
      i.general.fallbackBudget ≤ 2000 ∧ i.drive.InRange ∧ i.brush0.InRange ∧ i.brush1.InRange ∧ i.spray.InRange ∧
      ∀ c, 25 ≤ (i.coil c).period ∧ (i.coil c).period ≤ 100 ∧ (i.coil c).openLevel ≤ 4095 ∧
        (i.coil c).shortLevel ≤ 4095

/-! ### The travel drive -/

/-- The drive rows leave every other block alone: of the mode controller they change the DRIVE record only, the contribution table,
the own cap and the counts staying as they were, of the output stage the two drive coils' duties, PARK_RELEASE and, with the
record, FAULT_LAMP. -/
def Obligations.DriveRowsFrame : Prop :=
  ∀ (i : Instr) (s t : State), s.Settled → s.out.Wf → s.takeable = false → isDriveRow i = true → exec i s = .next t →
    SameBlocks s t ∧ t.brush0 = s.brush0 ∧ t.brush1 = s.brush1 ∧ t.ration = s.ration ∧ t.spray = s.spray ∧
      ({ t.ctl with faults := [] } : Controller) = { s.ctl with faults := [] } ∧
      (∀ src, src ≠ .drive → t.ctl.record src = s.ctl.record src) ∧
      t.out.butDrive = s.out.butDrive ∧ t.out.boost = s.out.boost ∧ SameForcing s.out t.out

/-- At each drive step the track positions are formed by their calibration, a pair out of order giving 0, and the pedal position
is their mean through the dead bands, or 0 while the pedal fault flag is set. -/
def Obligations.DriveStepFormsThePedalPosition : Prop :=
  ∀ (m : Moment) (s : State), s.takeable = false → s.drive.state ≠ .disabled → s.ctl.mode ≠ .standby →
    ∃ t, exec (.driveStep m) s = .next t ∧
      let i := s.cfg.drive
      let a := s.conv.pedalA.value
      let b := s.conv.pedalB.value
      ∃ pA pB : Nat,
        pA = (if i.aHi ≤ i.aLo ∨ a ≤ i.aLo then 0 else if i.aHi ≤ a then 1000
          else (a - i.aLo) * 1000 / (i.aHi - i.aLo)) ∧
        pB = (if i.bHi ≤ i.bLo ∨ i.bHi ≤ b then 0 else if b ≤ i.bLo then 1000
          else (i.bHi - b) * 1000 / (i.bHi - i.bLo)) ∧
        t.drive.pedal =
          (if t.drive.pedalFault = true then 0 else if (pA + pB) / 2 ≤ i.deadLo then 0
            else if i.deadHi ≤ (pA + pB) / 2 then 1000
            else ((pA + pB) / 2 - i.deadLo) * 1000 / (i.deadHi - i.deadLo))

/-- A drive step never raises the ramp target above the effective cap, nor by more than A_up, nor with N engaged; it gives duty to
the engaged coil only and to none while the coil hold keeps it; and in YIELDED, HELD and LATCHED it leaves both coils and
PARK_RELEASE off and the ramp target at 0. In STANDSTILL, DRIVING and TURNING its figures are: the demand, the share of the mode cap
that the pedal gives, reduced in R, at most the effective cap and, when blind, the creep cap, 0 with N engaged and in TURNING; the
requested direction engaged at rest, or after 200 ms at rest in TURNING, with ramp, integrator and duties at 0; TURNING entered at
speed and left by a withdrawal; STANDSTILL left with a demand, and entered 2000 ms after the stop; the ramp moved by A_up, A_dn or,
at an effective cap of 0, A_stop; and the duty of the feed-forward part, the proportional part and the integrator with its
anti-windup. The stop timing reads r at the step's start (log 16), and the hold after a change by way of N is log 18's. -/
def Obligations.DriveStepKeepsItsLimits : Prop :=
  ∀ (m : Moment) (s : State), s.takeable = false → s.drive.state ≠ .disabled → s.ctl.mode ≠ .standby →
    ∃ t, exec (.driveStep m) s = .next t ∧
      (s.drive.ramp < t.drive.ramp →
        t.drive.ramp ≤ s.effectiveCap ∧ t.drive.ramp ≤ s.drive.ramp + s.cfg.drive.aUp ∧ t.drive.engaged ≠ .neutral) ∧
      (t.drive.engaged ≠ .fwd ∨ t.drive.hold = some .fwd → t.out.driveF.shadow = 0) ∧
      (t.drive.engaged ≠ .rev ∨ t.drive.hold = some .rev → t.out.driveR.shadow = 0) ∧
      t.out.driveF.shadow ≤ 1000 ∧ t.out.driveR.shadow ≤ 1000 ∧
      (s.drive.state = .yielded ∨ s.drive.state = .held ∨ s.drive.state = .latched →
        t.drive.state = s.drive.state ∧ t.drive.engaged = s.drive.engaged ∧ t.drive.ramp = 0 ∧
          t.out.driveF.shadow = 0 ∧ t.out.driveR.shadow = 0 ∧ t.out.parkRelease = false) ∧
      (t.drive.state = .driving ∨ t.drive.state = .turning → t.out.parkRelease = true) ∧
      (s.drive.state = .standstill ∨ s.drive.state = .driving ∨ s.drive.state = .turning →
        let i := s.cfg.drive
        let permits : Bool := s.ctl.mode == .transport || s.ctl.mode == .sweep || s.ctl.mode == .stowing
        let modeCap : Nat :=
          match s.ctl.mode with
          | .limp => 300
          | .transport => i.transportCap
          | .sweep | .stowing => i.sweepCap
          | .unset | .warmup | .parked | .parking | .shutdown | .standby => 0
        let demand (e : Dir) : Nat :=
          let d := t.drive.pedal * modeCap / 1000
          let capped := min (if e = .rev then d * i.reverseRatio / 100 else d) s.effectiveCap
          if e = .neutral then 0
          else if t.drive.blind = true then min capped s.cfg.general.staleCap
          else capped
        let speed : Nat := if t.drive.blind = true then s.drive.ramp else s.capture.pace.natAbs
        let go (e : Dir) : DriveState := if 0 < demand e ∧ permits = true then .driving else .standstill
        let asked : Prop := s.ctl.requested ≠ s.drive.engaged
        let ran (x : Timer) (d : Nat) : Prop := ∃ b, x = some b ∧ b + d ≤ t.now
        let engages : Prop := asked ∧ speed ≤ 30 ∧ (s.drive.state = .turning → ran s.drive.turnTimer 200000)
        let stopped : Prop := s.drive.ramp = 0 ∧ speed ≤ 30 ∧ demand s.drive.engaged = 0
        let feed : Nat := if t.drive.ramp = 0 then 0 else min 1000 (i.uMin + t.drive.ramp * (1000 - i.uMin) / i.paceFull)
        let e : Int := (t.drive.ramp : Int) - s.capture.pace.natAbs
        (engages →
          t.drive.engaged = s.ctl.requested ∧ t.drive.ramp = 0 ∧ t.drive.integ = 0 ∧ t.drive.prevRaw = 0 ∧
            t.drive.state = go s.ctl.requested ∧ t.out.driveF.shadow = 0 ∧ t.out.driveR.shadow = 0 ∧
            t.drive.hold =
              (if s.drive.engaged ≠ .neutral ∧ s.ctl.requested ≠ .neutral then some s.ctl.requested else s.drive.hold)) ∧
        (¬engages →
          t.drive.engaged = s.drive.engaged ∧ t.drive.hold = s.drive.hold ∧
          (asked → t.drive.state = .turning ∧
            t.drive.turnTimer =
              (if s.drive.state = .turning ∧ speed ≤ 30 then some (s.drive.turnTimer.getD t.now) else none)) ∧
          (¬asked →
            (s.drive.state = .standstill → t.drive.state = go s.drive.engaged) ∧
            (s.drive.state = .turning → t.drive.state = .driving) ∧
            (s.drive.state = .driving →
              (stopped → ran s.drive.stopTimer 2000000 → t.drive.state = .standstill) ∧
              (stopped → ¬ran s.drive.stopTimer 2000000 →
                t.drive.state = .driving ∧ t.drive.stopTimer = some (s.drive.stopTimer.getD t.now)) ∧
              (¬stopped → t.drive.state = .driving ∧ t.drive.stopTimer = none))) ∧
          t.drive.ramp =
            (let d := if t.drive.state = .turning then 0 else demand s.drive.engaged
             if s.drive.ramp < d then min d (s.drive.ramp + i.aUp)
             else max d (s.drive.ramp - (if s.effectiveCap = 0 then i.aStop else i.aDn)))) ∧
        (∃ u : Nat,
          t.out.driveF.shadow = (if t.drive.engaged = .fwd ∧ t.drive.hold ≠ some .fwd then u else 0) ∧
          t.out.driveR.shadow = (if t.drive.engaged = .rev ∧ t.drive.hold ≠ some .rev then u else 0) ∧
          (t.drive.blind = true → u = min feed i.creepDuty ∧ t.drive.integ = 0 ∧ t.drive.prevRaw = 0) ∧
          (t.drive.blind = false → t.drive.ramp = 0 ∧ s.capture.pace.natAbs ≤ 30 →
            u = 0 ∧ t.drive.integ = 0 ∧ t.drive.prevRaw = 0) ∧
          (t.drive.blind = false → ¬(t.drive.ramp = 0 ∧ s.capture.pace.natAbs ≤ 30) →
            t.drive.integ =
              (if (1000 ≤ s.drive.prevRaw ∧ 0 < e) ∨ (s.drive.prevRaw ≤ 0 ∧ e < 0) then s.drive.integ
               else max (-((i.iMax : Int) * 100)) (min ((i.iMax : Int) * 100)
                (s.drive.integ + ((i.ki : Int) * e).tdiv 100))) ∧
            t.drive.prevRaw = (feed : Int) + ((i.kp : Int) * e).tdiv 1000 + t.drive.integ.tdiv 100 ∧
            u = (max 0 (min 1000 t.drive.prevRaw)).toNat)) ∧
        (t.out.parkRelease = true ↔
          t.drive.state = .driving ∨ t.drive.state = .turning ∨
            (t.drive.engaged ≠ .neutral ∧ permits = true ∧ 0 < t.drive.pedal)))

/-- PEDAL_ONSET, 100 ms of disagreement while the flag is clear, sets the pedal fault flag and makes p' 0; PEDAL_RECOVERY, 500
ms of agreement at rest while it is set, clears it. With no blind timing running, the first posts PEDAL at the tail when the
drive has no record and no latched condition, and the second withdraws an ACTIVE PEDAL record. Both rows are the whole drive
step at which their condition is met (DEDUCED, log 4). -/
def Obligations.PedalFaultOnsetAndRecovery : Prop :=
  (∀ (m : Moment) (s : State) (b : Micros), s.takeable = false → s.drive.state ≠ .disabled → s.ctl.mode ≠ .standby →
    s.drive.pedalFault = false → s.tracksDisagree = true → s.drive.disagreeTimer = some b →
      b + 100000 ≤ s.now + m.dt →
        ∃ t, exec (.pedalOnset m) s = .next t ∧ t.drive.pedalFault = true ∧ t.drive.pedal = 0 ∧
          t.drive.disagreeTimer = none ∧
          (s.drive.blindTimer = none → s.drive.coilLatch = false → s.drive.blind = false → s.drive.state ≠ .yielded →
            s.ctl.record .drive = none →
              t.ctl.faults = s.ctl.faults ++ [{ source := .drive, code := .pedal, state := .active }])) ∧
  (∀ (m : Moment) (s : State) (b : Micros), s.takeable = false → s.drive.state ≠ .disabled → s.ctl.mode ≠ .standby →
    s.drive.pedalFault = true → s.tracksDisagree = false → s.trackPosition = 0 → s.drive.recoverTimer = some b →
      b + 500000 ≤ s.now + m.dt →
        ∃ t, exec (.pedalRecovery m) s = .next t ∧ t.drive.pedalFault = false ∧ t.drive.recoverTimer = none ∧
          (s.drive.blindTimer = none →
            s.ctl.record .drive = some { source := .drive, code := .pedal, state := .active } →
              t.ctl.record .drive = none))

/-- STOP_TIMING_END: in DRIVING with no direction requested anew, a ramp target of 0, no demand and |v| of 30 or less (r when
blind) for 2000 ms end in STANDSTILL. TURN_COMPLETION: |v| of 30 or less for 200 ms in TURNING engages the requested direction
with the ramp, the integrator and both duties at 0, holding the new coil when the old one was a coil too. The figures of the
step are those its pedal and blind stages leave. Both rows are the whole drive step (DEDUCED, log 4); the stop timing reads r at
the step's start (DESIGN CHOICE, log 16), and the hold after a change by way of N is log 18's. -/
def Obligations.StopAndTurnTimingsEnd : Prop :=
  (∀ (m : Moment) (s : State) (b : Micros),
    let a := (s.arrive m).pedalStage.blindStage
    s.takeable = false →
    s.ctl.mode ≠ .standby → s.drive.state = .driving → s.ctl.requested = s.drive.engaged → s.drive.ramp = 0 →
      a.restSpeed ≤ 30 → a.demandFor s.drive.engaged = 0 → s.drive.stopTimer = some b → b + 2000000 ≤ s.now + m.dt →
        ∃ t, exec (.stopTimingEnd m) s = .next t ∧ t.drive.state = .standstill ∧ t.drive.stopTimer = none ∧
          t.drive.engaged = s.drive.engaged ∧ t.drive.ramp = 0 ∧ t.out.driveF.shadow = 0 ∧ t.out.driveR.shadow = 0) ∧
  (∀ (m : Moment) (s : State) (b : Micros),
    let a := (s.arrive m).pedalStage.blindStage
    s.takeable = false →
    s.ctl.mode ≠ .standby → s.drive.state = .turning → s.ctl.requested ≠ s.drive.engaged → a.restSpeed ≤ 30 →
      s.drive.turnTimer = some b → b + 200000 ≤ s.now + m.dt →
        ∃ t, exec (.turnCompletion m) s = .next t ∧ t.drive.engaged = s.ctl.requested ∧ t.drive.ramp = 0 ∧
          t.drive.integ = 0 ∧ t.drive.prevRaw = 0 ∧ t.drive.turnTimer = none ∧
          t.drive.state =
            (if 0 < a.demandFor s.ctl.requested ∧ s.ctl.mode.permitsTravel = true then .driving else .standstill) ∧
          t.out.driveF.shadow = 0 ∧ t.out.driveR.shadow = 0 ∧
          (s.drive.engaged ≠ .neutral → s.ctl.requested ≠ .neutral → t.drive.hold = some s.ctl.requested))

/-- BLIND_DETECTION: a duty of 300 or more in DRIVING or TURNING with the wheel at zero rate for 2000 ms sets the blind flag,
and WHEEL_SENSOR is LATCHED at once; the step already works blind: no integral, a duty of at most the creep duty. The duty of
the last step is read as the previous raw output (log 15). The row is the whole drive step (DEDUCED, log 4). -/
def Obligations.BlindDetectionLatchesTheSensor : Prop :=
  ∀ (m : Moment) (s : State) (b : Micros), s.takeable = false → s.ctl.mode ≠ .standby →
    (s.drive.state = .driving ∨ s.drive.state = .turning) → s.drive.blind = false → 300 ≤ s.drive.prevRaw →
      s.capture.wheel.zeroRate = true → s.drive.blindTimer = some b → b + 2000000 ≤ s.now + m.dt →
        ∃ t, exec (.blindDetection m) s = .next t ∧ t.drive.blind = true ∧ t.drive.integ = 0 ∧ t.drive.prevRaw = 0 ∧
          t.ctl.record .drive = some { source := .drive, code := .wheelSensor, state := .latched } ∧
          t.out.driveF.shadow ≤ s.cfg.drive.creepDuty ∧ t.out.driveR.shadow ≤ s.cfg.drive.creepDuty

/-! ### The brush channels and the ration unit -/

/-- The brush rows leave every other block alone: of the drive they change BOOST only, of the mode controller the brush records and
counts, the own cap, and in the contribution table the overrun, transport and after-fault places of the two arms and the ration
cap's, of the output stage the motor valves, the arm valves, BOOST and, with the records, FAULT_LAMP. A DISABLED channel keeps its
own figures and its places. -/
def Obligations.BrushRowsFrame : Prop :=
  ∀ (i : Instr) (s t : State), s.Settled → s.out.Wf → s.takeable = false → isBrushRow i = true → exec i s = .next t →
    SameBlocks s t ∧ t.spray = s.spray ∧
      ({ t.drive with boost := false, boostTimer := none } : Drive) = { s.drive with boost := false, boostTimer := none } ∧
      ({ t.ctl with faults := [], contrib := .empty, ownCap := 0, brush0Count := .zero, brush1Count := .zero } : Controller) =
        { s.ctl with faults := [], contrib := .empty, ownCap := 0, brush0Count := .zero, brush1Count := .zero } ∧
      t.ctl.contrib.driveLatched = s.ctl.contrib.driveLatched ∧ t.ctl.contrib.dust = s.ctl.contrib.dust ∧
      (∀ src, src ≠ .brush0 → src ≠ .brush1 → t.ctl.record src = s.ctl.record src) ∧
      (∀ c, (s.brush c).state = .disabled →
        t.brush c = s.brush c ∧ t.ctl.contrib.overrunOf c = s.ctl.contrib.overrunOf c ∧
          t.ctl.contrib.transportOf c = s.ctl.contrib.transportOf c ∧
          t.ctl.contrib.afterFaultOf c = s.ctl.contrib.afterFaultOf c) ∧
      t.out.butArms = s.out.butArms ∧ SameForcing s.out t.out

/-- At a brush step a STOWED channel that is called and not over the hard limit enters DESCENDING with FLOAT active; a
DESCENDING or SWEEPING one that is released enters RAISING with its motor and arm off for the spin-down, or, with a spin-down of
0, at once with LIFT active, or STOWED if its arm is up. Stage 3 gives a working channel the motor duty of its granted speed: 0 at
a grant of 0; else offset + floor(n_g × gain / 100) + trunc(T / 100), clamped to 0..1000 and limited to the HOLD ceiling, with T
updated first unless the previous unclamped duty stands at a bound. In HOLD mode the ceiling falls by 10 over P_lim and rises by
10 below P_lim − 100. An enabled channel's three cap contributions are posted as their conditions stand. That the hard limit is
tested before the call is the model's choice (log 19), and so is that a grant of 0 leaves the previous unclamped duty (log 45);
that the step which enters DESCENDING leaves the ceiling unlimited, without R41's adjustment, is its reading (DEDUCED, log 20). -/
def Obligations.BrushStepFollowsTheCall : Prop :=
  ∀ (m : Moment) (first c : Chan) (s : State),
    let i := (s.arrive m).brushIn c
    s.takeable = false → s.loader.state = .done → s.ctl.mode ≠ .standby →
      ∃ t, exec (.brushStep m first) s = .next t ∧
        ((s.brush c).state = .stowed → i.called = true → i.overHard = false →
          (t.brush c).state = .descending ∧ (t.brush c).descendTimer = some t.now ∧ (t.brush c).ceiling = none ∧
            t.out.float c = true ∧ t.out.lift c = false) ∧
        ((s.brush c).state = .descending ∨ (s.brush c).state = .sweeping → i.called = false →
          (t.out.coil (valveOf c)).shadow = 0 ∧ t.out.float c = false ∧ (t.brush c).overrun = false ∧
            (t.brush c).starved = false ∧ (t.brush c).ceiling = none ∧
            (0 < i.cfg.spinDown →
              (t.brush c).state = .raising ∧ (t.brush c).spinTimer = some t.now ∧ t.out.lift c = false) ∧
            (i.cfg.spinDown = 0 → i.armUp = false →
              (t.brush c).state = .raising ∧ (t.brush c).raiseTimer = some t.now ∧ t.out.lift c = true) ∧
            (i.cfg.spinDown = 0 → i.armUp = true → (t.brush c).state = .stowed ∧ t.out.lift c = false)) ∧
        ((s.brush c).state ≠ .disabled →
          (t.out.coil (valveOf c)).shadow = (t.brush c).lastDuty ∧
          ((t.brush c).state.working = false → (t.brush c).lastDuty = 0) ∧
          ((t.brush c).state.working = true →
            let granted := (t.ration.share c).granted
            let trim : Int := if (s.brush c).state.working = true then (s.brush c).trim else 0
            let prev : Int := if (s.brush c).state.working = true then (s.brush c).prevDuty else 0
            let e : Int := (granted : Int) - i.speed
            let upper : Int := (min 1000 ((t.brush c).ceiling.getD 1000) : Nat)
            (granted = 0 → (t.brush c).lastDuty = 0 ∧ (t.brush c).trim = trim ∧ (t.brush c).prevDuty = prev) ∧
            (0 < granted →
              (t.brush c).trim =
                (if i.cfg.pulses = 0 then 0
                 else if (upper ≤ prev ∧ 0 < e) ∨ (prev ≤ 0 ∧ e < 0) then trim
                 else max (-10000) (min 10000 (trim + 5 * e))) ∧
              (t.brush c).prevDuty =
                ((i.cfg.valveOffset + granted * i.cfg.valveGain / 100 : Nat) : Int) + (t.brush c).trim.tdiv 100 ∧
              (t.brush c).lastDuty =
                min (max 0 (min 1000 (t.brush c).prevDuty)).toNat ((t.brush c).ceiling.getD 1000))) ∧
          ((s.brush c).state.working = true → (t.brush c).state.working = true →
            ((s.brush c).state = .sweeping → (t.brush c).state = .sweeping) →
            (t.brush c).ceiling =
              (if i.cfg.limitMode = 1 ∧ i.usable = true ∧ i.cfg.pLim < i.pressure then
                some ((s.brush c).ceiling.getD (s.brush c).lastDuty - 10)
               else if i.cfg.limitMode = 1 ∧ i.usable = true ∧ i.pressure + 100 < i.cfg.pLim then
                (match (s.brush c).ceiling with
                 | some v => if 1000 ≤ v + 10 then none else some (v + 10)
                 | none => none)
               else (s.brush c).ceiling)) ∧
          t.ctl.contrib.overrunOf c = (if (t.brush c).overrun = true then some (t.brush c).overrunCap else none) ∧
          t.ctl.contrib.transportOf c =
            (if s.ctl.mode = .transport ∧ i.armUp = false then some s.cfg.drive.sweepCap else none) ∧
          t.ctl.contrib.afterFaultOf c =
            (if ((t.brush c).state = .fault ∨ (t.brush c).state = .latched) ∧ i.armUp = false then
              some s.cfg.general.staleCap else none))

/-- CONTACT_DETECTED: a called DESCENDING channel whose contact condition has held for t_contact enters SWEEPING.
LOSS_OF_CONTACT: in PRESSURE mode, a called SWEEPING channel, not starved for its time, whose pressure has stood below the loss
threshold for t_loss returns to DESCENDING with FLOAT active and its timings afresh. Both rows are the whole brush step
(DEDUCED, log 4). -/
def Obligations.ContactIsFoundAndLost : Prop :=
  (∀ (m : Moment) (first c : Chan) (s : State) (b : Micros),
    let i := (s.arrive m).brushIn c
    s.takeable = false → s.loader.state = .done → s.ctl.mode ≠ .standby → (s.brush c).state = .descending → i.called = true →
      i.contact = true → (s.brush c).contactTimer = some b → b + i.cfg.tContact * 1000 ≤ s.now + m.dt →
        ∃ t, exec (.contactDetected m first c) s = .next t ∧ (t.brush c).state = .sweeping ∧
          (t.brush c).contactTimer = none ∧ (t.brush c).descendTimer = none ∧ t.out.float c = true ∧
          t.out.lift c = false) ∧
  (∀ (m : Moment) (first c : Chan) (s : State) (b : Micros),
    let i := (s.arrive m).brushIn c
    s.takeable = false → s.loader.state = .done → s.ctl.mode ≠ .standby → (s.brush c).state = .sweeping → i.called = true →
      (s.brush c).starveTimer = none → i.cfg.contactMode = 0 → i.usable = true → i.pressure < i.cfg.lossLevel →
      (s.brush c).lossTimer = some b → b + i.cfg.tLoss * 1000 ≤ s.now + m.dt →
        ∃ t, exec (.lossOfContact m first c) s = .next t ∧ (t.brush c).state = .descending ∧
          (t.brush c).descendTimer = some t.now ∧ (t.brush c).ceiling = none ∧ (t.brush c).tripTimer = none ∧
          (t.brush c).stallTimer = none ∧ (t.brush c).overrun = false ∧ t.out.float c = true ∧ t.out.lift c = false)

/-- STARVATION: a called SWEEPING channel whose grant has been below a quarter of its demand for 2000 ms sets its starved mark
and raises. RESUME: a called WAITING channel, not over the hard limit, whose would-be ratio has stood at 500 or more for 1000 ms
clears the mark and descends. Both rows are the whole brush step (DEDUCED, log 4); in WAITING the hard limit is tested first
(log 19). -/
def Obligations.StarvedBrushWaitsAndResumes : Prop :=
  (∀ (m : Moment) (first c : Chan) (s : State) (b : Micros),
    let i := (s.arrive m).brushIn c
    s.takeable = false → s.loader.state = .done → s.ctl.mode ≠ .standby → (s.brush c).state = .sweeping → i.called = true →
      i.share.grant * 4 < i.share.demand → (s.brush c).starveTimer = some b → b + 2000000 ≤ s.now + m.dt →
        ∃ t, exec (.starvation m first c) s = .next t ∧ (t.brush c).starved = true ∧ t.out.float c = false ∧
          (t.out.coil (valveOf c)).shadow = 0 ∧
          (t.brush c).state = (if i.cfg.spinDown = 0 ∧ i.armUp = true then .waiting else .raising)) ∧
  (∀ (m : Moment) (first c : Chan) (s : State) (b : Micros),
    let i := (s.arrive m).brushIn c
    s.takeable = false → s.loader.state = .done → s.ctl.mode ≠ .standby → (s.brush c).state = .waiting → i.overHard = false →
      i.called = true → 500 ≤ i.share.wouldBe → (s.brush c).resumeTimer = some b → b + 1000000 ≤ s.now + m.dt →
        ∃ t, exec (.resume m first c) s = .next t ∧ (t.brush c).state = .descending ∧ (t.brush c).starved = false ∧
          (t.brush c).descendTimer = some t.now ∧ t.out.float c = true ∧ t.out.lift c = false)

/-- SPIN_DOWN_END: the arm up already ends RAISING in STOWED, or WAITING with the starved mark; else LIFT is set and the raise
timer starts. BRUSH_RECOVERY_DELAY_END: after 2000 ms an ACTIVE record becomes RECOVERING, and the channel raises, or is HELD
during a SUPPLY condition. Both rows are the whole brush step (DEDUCED, log 4); in RAISING the hard limit is tested first (log
19). -/
def Obligations.SpinDownAndRecoveryDelayEnd : Prop :=
  (∀ (m : Moment) (first c : Chan) (s : State) (b : Micros),
    let i := (s.arrive m).brushIn c
    s.takeable = false → s.loader.state = .done → s.ctl.mode ≠ .standby → (s.brush c).state = .raising → i.overHard = false →
      (s.brush c).raiseTimer = none → (s.brush c).spinTimer = some b → b + i.cfg.spinDown * 1000 ≤ s.now + m.dt →
        ∃ t, exec (.spinDownEnd m first c) s = .next t ∧ t.out.float c = false ∧
          (i.armUp = true → t.out.lift c = false ∧
            (t.brush c).state = if (s.brush c).starved = true then .waiting else .stowed) ∧
          (i.armUp = false →
            t.out.lift c = true ∧ (t.brush c).state = .raising ∧ (t.brush c).raiseTimer = some t.now)) ∧
  (∀ (m : Moment) (first c : Chan) (s : State) (b : Micros),
    s.takeable = false → s.loader.state = .done → s.ctl.mode ≠ .standby → (s.brush c).state = .fault →
      (s.brush c).recoveryTimer = some b → b + 2000000 ≤ s.now + m.dt →
      s.ctl.recordState (sourceOf (countedOf c)) = some .active →
        ∃ t, exec (.brushRecoveryDelayEnd m first c) s = .next t ∧ t.out.float c = false ∧
          (s.supplyLow = true →
            (t.brush c).state = .held ∧ t.ctl.recordState (sourceOf (countedOf c)) = some .recovering) ∧
          (s.supplyLow = false → (s.cfg.brush c).spinDown ≠ 0 →
            (t.brush c).state = .raising ∧ (t.brush c).spinTimer = some t.now ∧
              t.ctl.recordState (sourceOf (countedOf c)) = some .recovering))

/-- OVERRUN_ONSET: a called SWEEPING channel with a pickup whose speed has stood over five quarters of n_g plus 20 for 300 ms,
and which meets nothing else, has its overrun condition stand with a cap of three quarters of the pace, or the creep cap.
OVERRUN_CLEAR: a speed at or below n_g for 1000 ms ends the condition, also at a step at which it has stood for 3000 ms (DESIGN
CHOICE, log 46). Both rows are the whole brush step (DEDUCED, log 4). -/
def Obligations.OverrunStandsAndClears : Prop :=
  (∀ (m : Moment) (first c : Chan) (s : State) (b : Micros),
    let i := (s.arrive m).brushIn c
    s.takeable = false → s.loader.state = .done → s.ctl.mode ≠ .standby → (s.brush c).state = .sweeping → i.called = true →
      (s.brush c).starveTimer = none → (s.brush c).lossTimer = none → (s.brush c).tripTimer = none →
      (s.brush c).stallTimer = none → 0 < i.cfg.tLoss → 0 < i.cfg.tTrip → 0 < i.cfg.tHoldMax → i.overHard = false →
      i.usable = true → i.cfg.pulses ≠ 0 → (s.brush c).overrun = false → (s.brush c).standingTimer = none →
      i.share.granted * 5 / 4 + 20 < i.speed → (s.brush c).onsetTimer = some b → b + 300000 ≤ s.now + m.dt →
        ∃ t, exec (.overrunOnset m first c) s = .next t ∧ (t.brush c).state = .sweeping ∧ (t.brush c).overrun = true ∧
          (t.brush c).standingTimer = some t.now ∧
          (t.brush c).overrunCap =
            (match (s.arrive m).paceView.magnitude with
             | some v => v * 3 / 4
             | none => s.cfg.general.staleCap) ∧
          t.ctl.ownCap ≤ (t.brush c).overrunCap) ∧
  (∀ (m : Moment) (first c : Chan) (s : State) (b : Micros),
    let i := (s.arrive m).brushIn c
    s.takeable = false → s.loader.state = .done → s.ctl.mode ≠ .standby → (s.brush c).state = .sweeping → i.called = true →
      (s.brush c).starveTimer = none → (s.brush c).lossTimer = none → (s.brush c).tripTimer = none →
      (s.brush c).stallTimer = none → 0 < i.cfg.tLoss → 0 < i.cfg.tTrip → 0 < i.cfg.tHoldMax → i.overHard = false →
      i.usable = true → (s.brush c).overrun = true → i.speed ≤ i.share.granted → (s.brush c).clearTimer = some b →
      b + 1000000 ≤ s.now + m.dt →
        ∃ t, exec (.overrunClear m first c) s = .next t ∧ (t.brush c).state = .sweeping ∧
          (t.brush c).overrun = false ∧ (t.brush c).standingTimer = none ∧
          (match c with
           | .c0 => t.ctl.contrib.overrun0
           | .c1 => t.ctl.contrib.overrun1) = none)

/-- DESCEND_TIMEOUT, RAISE_TIMEOUT, TRIP, STALL and OVERRUN_STANDING each post their code by the common latching rule, and the
channel enters FAULT or LATCHED with its arm and motor off. Each is stated for a channel that meets nothing of an earlier row.
The rows are the whole brush step (DEDUCED, log 4); in RAISING the hard limit is tested first (log 19); of the faults of SWEEPING's
one row the pressure and sensor faults come before OVERRUN (DESIGN CHOICE, log 46). -/
def Obligations.TimedBrushFaultsArePosted : Prop :=
  ∀ (m : Moment) (first c : Chan) (s : State) (b : Micros),
    let i := (s.arrive m).brushIn c
    let x := s.brush c
    s.takeable = false → s.loader.state = .done → s.ctl.mode ≠ .standby → s.brushCanPost c →
      (x.state = .descending → i.called = true → i.contact = false → x.descendTimer = some b →
        b + i.cfg.descendTimeout * 1000 ≤ s.now + m.dt →
          ∃ t, exec (.descendTimeout m first c) s = .next t ∧ BrushFaulted s t c .noContact) ∧
      (x.state = .raising → i.overHard = false → i.armUp = false → x.raiseTimer = some b →
        b + i.cfg.raiseTimeout * 1000 ≤ s.now + m.dt →
          ∃ t, exec (.raiseTimeout m first c) s = .next t ∧ BrushFaulted s t c .raiseTimeout) ∧
      (x.state = .sweeping → i.called = true → x.starveTimer = none → x.lossTimer = none → 0 < i.cfg.tLoss →
        i.overHard = false → i.overLimit = true → i.cfg.limitMode = 0 → x.tripTimer = some b →
        b + i.cfg.tTrip * 1000 ≤ s.now + m.dt →
          ∃ t, exec (.trip m first c) s = .next t ∧ BrushFaulted s t c .overpressure) ∧
      (x.state = .sweeping → i.called = true → x.starveTimer = none → x.lossTimer = none → 0 < i.cfg.tLoss →
        i.overHard = false → i.overLimit = true → i.cfg.limitMode = 1 → x.stallTimer = some b →
        b + i.cfg.tHoldMax * 1000 ≤ s.now + m.dt →
          ∃ t, exec (.stall m first c) s = .next t ∧ BrushFaulted s t c .stall) ∧
      (x.state = .sweeping → i.called = true → x.starveTimer = none → x.lossTimer = none → 0 < i.cfg.tLoss →
        i.usable = true → i.pressure ≤ i.cfg.pLim → x.overrun = true → i.share.granted < i.speed →
        x.standingTimer = some b → b + 3000000 ≤ s.now + m.dt →
          ∃ t, exec (.overrunStanding m first c) s = .next t ∧ BrushFaulted s t c .overrun)

/-- After a brush step no grant exceeds its demand, and the grants of the station's channels together never exceed the budget in
that station's view. The step forms: the engine budget of a claiming drive, else 0, and the budget of the budget view; for each
enabled channel the scheduled speed on the straight line between breakpoints, or its blind rpm without a pace; the demand of a
working channel, the flow of that speed up to 2000, and 0 of any other; the total with the peers' demands; the grant, the demand or
its share of a short budget; the granted speed, at most the scheduled one; and the would-be ratio of a WAITING channel. What the
views are, PeerDemandsAreSummed says. -/
def Obligations.GrantsStayWithinDemandAndBudget : Prop :=
  ∀ (m : Moment) (first : Chan) (s : State), s.takeable = false → s.loader.state = .done → s.ctl.mode ≠ .standby →
    ∃ t, exec (.brushStep m first) s = .next t ∧
      t.ration.share0.grant ≤ t.ration.share0.demand ∧ t.ration.share1.grant ≤ t.ration.share1.demand ∧
      t.ration.share0.grant + t.ration.share1.grant ≤ t.ration.budget ∧
      t.ration.engineBudget =
        (if s.drive.state = .yielded ∨ s.drive.state = .disabled then 0
         else min 2000 (s.capture.engine.rate * s.cfg.drive.va * s.cfg.drive.etaA / 100000)) ∧
      t.ration.budget =
        (match s.budgetView t.ration.engineBudget with
         | .known b => b
         | .held b => b
         | .fallback b => b) ∧
      t.ration.total = s.peerDemands + (t.ration.share0.demand + t.ration.share1.demand) ∧
      t.ration.demand = min 2000 (t.ration.share0.demand + t.ration.share1.demand) ∧
      ∀ c,
        let i := s.cfg.brush c
        let x := t.ration.share c
        let flow : Nat := min 2000 ((x.n * i.vm * 10 + (i.etaM - 1)) / i.etaM)
        ((s.brush c).state = .disabled → x = { n := 0, demand := 0, grant := 0, granted := 0, wouldBe := 0 }) ∧
        ((s.brush c).state ≠ .disabled →
          (s.paceView = .unknown → x.n = i.blindRpm) ∧
          (∀ v : Int, s.paceView = .known v ∨ s.paceView = .held v → (i.points.map Prod.fst).Pairwise (· < ·) →
            (∀ p, i.points.head? = some p → v.natAbs ≤ p.1 → x.n = p.2) ∧
            (∀ p, i.points.getLast? = some p → p.1 ≤ v.natAbs → x.n = p.2) ∧
            (∀ (k : Nat) (p q : Nat × Nat), i.points[k]? = some p → i.points[k + 1]? = some q → p.1 ≤ v.natAbs →
              v.natAbs < q.1 →
                x.n = (p.2 * (q.1 - v.natAbs) + q.2 * (v.natAbs - p.1)) / (q.1 - p.1))) ∧
          x.demand =
            (if (t.brush c).state = .descending ∨ (t.brush c).state = .sweeping then flow else 0) ∧
          x.grant =
            (if t.ration.total ≤ t.ration.budget then x.demand else x.demand * t.ration.budget / t.ration.total) ∧
          x.granted = min x.n (x.grant * i.etaM / (i.vm * 10)) ∧
          x.wouldBe =
            (if (t.brush c).state = .waiting then
              (if t.ration.total + flow = 0 then 1000
               else min 1000 (t.ration.budget * 1000 / (t.ration.total + flow)))
             else 0))

/-- The flow ratio of a brush step is 1000 without demand, else the budget's share of the total demand in per mille, at most
1000, and 1000 on a station with no enabled channel; the rationed flag is set below 1000. RATION_CAP_ONSET, a ratio below 800
for 1000 ms, posts floor(sweep cap × ratio / 1000); RATION_CAP_RELEASE, a ratio of 900 or more for 2000 ms, withdraws it; at every
step between the two the cap is posted again with that step's ratio. The ratio of the step is formed after its stage 1. On a
station whose drive claims, the step evaluates the boost request: a total demand above floor(B × threshold / 1000) asserts it and
starts the hold time; it is released when the total has fallen to floor(B × (threshold − 50) / 1000) and the hold time has run;
BOOST shows it. The cap's rows are the whole brush step (DEDUCED, log 4). -/
def Obligations.RatioAndRationCap : Prop :=
  (∀ (m : Moment) (first : Chan) (s : State), s.takeable = false → s.loader.state = .done → s.ctl.mode ≠ .standby →
    ∃ t, exec (.brushStep m first) s = .next t ∧
      t.ration.ratio =
        (if t.anyBrush = true then
          (if t.ration.total = 0 then 1000 else min 1000 (t.ration.budget * 1000 / t.ration.total)) else 1000) ∧
      t.ration.rationed = decide (t.ration.ratio < 1000) ∧
      t.ctl.contrib.ration =
        (if t.ration.capActive = true then some (s.cfg.drive.sweepCap * t.ration.ratio / 1000) else none) ∧
      (t.anyBrush = false → t.ration.capActive = false) ∧
      (t.anyBrush = true → s.ration.capActive = false →
        (t.ration.capActive = true ↔
          t.ration.ratio < 800 ∧ ∃ b, s.ration.onsetTimer = some b ∧ b + 1000000 ≤ t.now) ∧
        (t.ration.capActive = false →
          t.ration.onsetTimer = if t.ration.ratio < 800 then some (s.ration.onsetTimer.getD t.now) else none)) ∧
      (t.anyBrush = true → s.ration.capActive = true →
        (t.ration.capActive = false ↔
          900 ≤ t.ration.ratio ∧ ∃ b, s.ration.releaseTimer = some b ∧ b + 2000000 ≤ t.now) ∧
        (t.ration.capActive = true →
          t.ration.releaseTimer = if 900 ≤ t.ration.ratio then some (s.ration.releaseTimer.getD t.now) else none)) ∧
      (s.drive.state = .yielded ∨ s.drive.state = .disabled → t.drive = s.drive ∧ t.out.boost = s.out.boost) ∧
      (s.drive.state ≠ .yielded → s.drive.state ≠ .disabled →
        t.out.boost = t.drive.boost ∧
        (s.drive.boost = false →
          (t.ration.budget * s.cfg.drive.boostThreshold / 1000 < t.ration.total →
            t.drive.boost = true ∧ t.drive.boostTimer = some t.now) ∧
          (t.ration.total ≤ t.ration.budget * s.cfg.drive.boostThreshold / 1000 → t.drive = s.drive)) ∧
        (s.drive.boost = true →
          (t.drive.boost = false ↔
            t.ration.total ≤ t.ration.budget * (s.cfg.drive.boostThreshold - 50) / 1000 ∧
              ∃ b, s.drive.boostTimer = some b ∧ b + s.cfg.drive.boostHold * 1000 ≤ t.now) ∧
          (t.drive.boost = true → t.drive = s.drive)))) ∧
  (∀ (m : Moment) (first : Chan) (s : State) (b : Micros),
    let a := (s.arrive m).brushStage1Both first
    s.takeable = false → s.loader.state = .done → s.ctl.mode ≠ .standby → s.anyBrush = true → s.ration.capActive = false →
      a.formRatio < 800 → s.ration.onsetTimer = some b → b + 1000000 ≤ s.now + m.dt →
        ∃ t, exec (.rationCapOnset m first) s = .next t ∧ t.ration.capActive = true ∧ t.ration.releaseTimer = none ∧
          t.ctl.contrib.ration = some (s.cfg.drive.sweepCap * t.ration.ratio / 1000)) ∧
  (∀ (m : Moment) (first : Chan) (s : State) (b : Micros),
    let a := (s.arrive m).brushStage1Both first
    s.takeable = false → s.loader.state = .done → s.ctl.mode ≠ .standby → s.anyBrush = true → s.ration.capActive = true →
      900 ≤ a.formRatio → s.ration.releaseTimer = some b → b + 2000000 ≤ s.now + m.dt →
        ∃ t, exec (.rationCapRelease m first) s = .next t ∧ t.ration.capActive = false ∧
          t.ration.onsetTimer = none ∧ t.ctl.contrib.ration = none)

/-! ### The spray channel -/

/-- The spray rows leave every other block alone: of the mode controller they change the SPRAY record and its count, the dust cap's
place and with it the own cap, of the output stage the pump, the nozzles and, with the record, FAULT_LAMP. -/
def Obligations.SprayRowsFrame : Prop :=
  ∀ (i : Instr) (s t : State), s.Settled → s.out.Wf → s.takeable = false → isSprayRow i = true → exec i s = .next t →
    SameBlocks s t ∧ t.drive = s.drive ∧ t.brush0 = s.brush0 ∧ t.brush1 = s.brush1 ∧ t.ration = s.ration ∧
      ({ t.ctl with faults := [], contrib := .empty, ownCap := 0, sprayCount := .zero } : Controller) =
        { s.ctl with faults := [], contrib := .empty, ownCap := 0, sprayCount := .zero } ∧
      ({ t.ctl.contrib with dust := none } : Contributions) = { s.ctl.contrib with dust := none } ∧
      (∀ src, src ≠ .spray → t.ctl.record src = s.ctl.record src) ∧ t.out.butSpray = s.out.butSpray ∧
      SameForcing s.out t.out

/-- After a spray step the nozzles show the open set, which is the wanted set in PRIMING and SPRAYING and empty in every other
state; the pump's shadow is the last duty, 0 outside those states; and the flow target in SPRAYING is the rate's, raised to Q_min
and lowered to Q_max. The wanted groups are the enabled ones without a reference, or whose own or peer brush is SWEEPING. The pump's
duty is offset + floor(Q × gain / 10000) + trunc(T / 100), clamped; T is updated at a step in SPRAYING unless the previous unclamped
duty stands at a bound, and kept in PRIMING and PAUSED. That a target of 0 leaves the previous unclamped duty is the model's choice
(log 45). What the views are, PeerDemandsAreSummed says. -/
def Obligations.SprayStepWritesPumpAndNozzles : Prop :=
  ∀ (m : Moment) (s : State), s.takeable = false → s.spray.state ≠ .disabled → s.ctl.mode ≠ .standby →
    ∃ t, exec (.sprayStep m) s = .next t ∧
      t.out.nozzle1 = decide (1 ∈ t.spray.opened) ∧ t.out.nozzle2 = decide (2 ∈ t.spray.opened) ∧
      t.out.nozzle3 = decide (3 ∈ t.spray.opened) ∧ t.out.nozzle4 = decide (4 ∈ t.spray.opened) ∧
      t.out.pump.shadow = t.spray.lastDuty ∧ t.spray.lastDuty ≤ 1000 ∧ t.spray.wanted = s.wantedGroups ∧
      t.spray.wanted.Pairwise (· < ·) ∧
      (∀ n, n ∈ t.spray.wanted ↔
        1 ≤ n ∧ ∃ g, s.cfg.spray.groups[n - 1]? = some g ∧ g.enabled = 1 ∧
          (g.kind = 0 ∨
            (g.kind = 1 ∧ (g.channel = 0 → s.brush0.state = .sweeping) ∧ (g.channel ≠ 0 → s.brush1.state = .sweeping)) ∨
            (2 ≤ g.kind ∧ ∃ r, s.peerBrush g.station g.channel = some r ∧ r.state = 2))) ∧
      (t.spray.state = .priming ∨ t.spray.state = .spraying →
        let q := t.spray.target
        let e : Int := (q : Int) - s.capture.flow.rate
        t.spray.trim =
          (if t.spray.state = .priming ∨ (1000 ≤ s.spray.prevDuty ∧ 0 < e) ∨ (s.spray.prevDuty ≤ 0 ∧ e < 0) then s.spray.trim
           else max (-15000) (min 15000 (s.spray.trim + e.tdiv 10))) ∧
        (q = 0 → t.spray.lastDuty = 0 ∧ t.spray.prevDuty = s.spray.prevDuty) ∧
        (0 < q →
          t.spray.prevDuty =
            ((s.cfg.spray.pumpOffset + q * s.cfg.spray.pumpGain / 10000 : Nat) : Int) + t.spray.trim.tdiv 100 ∧
          t.spray.lastDuty = (max 0 (min 1000 t.spray.prevDuty)).toNat)) ∧
      (t.spray.state = .paused → t.spray.trim = s.spray.trim) ∧
      (t.spray.state = .priming ∨ t.spray.state = .spraying → t.spray.opened = t.spray.wanted) ∧
      (t.spray.state ≠ .priming → t.spray.state ≠ .spraying →
        t.spray.opened = [] ∧ t.spray.target = 0 ∧ t.spray.lastDuty = 0) ∧
      (t.spray.state = .priming → t.spray.target = min s.cfg.spray.qMax s.cfg.spray.qMin) ∧
      (t.spray.state = .spraying →
        t.spray.target =
          min s.cfg.spray.qMax (max s.cfg.spray.qMin (min 60000
            (s.ctl.sprayRate *
              (t.spray.wanted.map fun k => (s.cfg.spray.groups.getD (k - 1) GroupCfg.blank).width).sum *
                s.paceView.magnitude.getD 0 / 600)))) ∧
      (s.spray.state = .off → s.sprayCalled = true → s.tankOut = false → s.spray.tankLowTimer = none →
        s.cfg.spray.tankLow ≤ s.conv.tank.value * 100 / 4096 → s.wantedGroups ≠ [] →
        (∃ v, s.paceView.magnitude = some v ∧ 50 ≤ v) →
          t.spray.state = .priming ∧ t.spray.primeTimer = some t.now)

/-- PRIME_TIME_END: a called PRIMING channel with a good tank and a wanted group goes, its prime time passed, to SPRAYING, or to
PAUSED when the pace is unknown. STANDSTILL_HOLD_END: |v| below 30 for the hold time takes SPRAYING to PAUSED, keeping T, with
the pump and the groups off. Both rows are the whole spray step (DEDUCED, log 4); the step that enters SPRAYING starts no
standstill timing (DESIGN CHOICE, log 47). -/
def Obligations.PrimingAndStandstillHoldEnd : Prop :=
  (∀ (m : Moment) (s : State) (b : Micros), s.takeable = false →
    s.ctl.mode = .sweep → s.ctl.sprayOn = true → s.spray.state = .priming →
    s.wantedGroups ≠ [] → s.tankOut = false → s.spray.tankLowTimer = none → s.spray.primeTimer = some b →
      b + s.cfg.spray.primeTime * 1000 ≤ s.now + m.dt →
        ∃ t, exec (.primeTimeEnd m) s = .next t ∧
          t.spray.state = (if s.paceView.magnitude = none then .paused else .spraying)) ∧
  (∀ (m : Moment) (s : State) (b v : Nat), s.takeable = false →
    s.ctl.mode = .sweep → s.ctl.sprayOn = true → s.spray.state = .spraying →
    s.wantedGroups ≠ [] → s.tankOut = false → s.spray.tankLowTimer = none → s.spray.dryRunTimer = none →
      s.paceView.magnitude = some v → v < 30 → s.spray.standstillTimer = some b →
      b + s.cfg.spray.standstillHold * 1000 ≤ s.now + m.dt →
        ∃ t, exec (.standstillHoldEnd m) s = .next t ∧ t.spray.state = .paused ∧ t.spray.trim = s.spray.trim ∧
          t.spray.opened = [] ∧ t.out.pump.shadow = 0)

/-- TANK_LOW_EMPTY: a low level for 5000 ms takes a called SPRAYING channel that does not run dry to EMPTY. REFILL: a level of
the threshold plus 5 or more for 5000 ms takes EMPTY to OFF. DRY_RUN: a flow below a quarter of the target at a duty of 200 or
more for 3000 ms posts DRY_RUN. SPRAY_RECOVERY_DELAY_END: after 10000 ms an ACTIVE record becomes RECOVERING and the channel
goes to OFF, or HELD during a SUPPLY condition, its kept code the same (DESIGN CHOICE, log 48). The rows are the whole spray step
(DEDUCED, log 4). -/
def Obligations.TankAndDryRunTimingsEnd : Prop :=
  (∀ (m : Moment) (s : State) (b : Micros), s.takeable = false →
    s.ctl.mode = .sweep → s.ctl.sprayOn = true → s.spray.state = .spraying →
    s.tankOut = false → s.spray.dryRunTimer = none → s.conv.tank.value * 100 / 4096 < s.cfg.spray.tankLow →
      s.spray.tankLowTimer = some b → b + 5000000 ≤ s.now + m.dt →
        ∃ t, exec (.tankLowEmpty m) s = .next t ∧ t.spray.state = .empty ∧ t.spray.opened = [] ∧
          t.out.pump.shadow = 0 ∧
          (s.cfg.spray.drySweep = 0 → t.ctl.contrib.dust = some s.cfg.spray.dustCap)) ∧
  (∀ (m : Moment) (s : State) (b : Micros), s.takeable = false →
    s.ctl.mode ≠ .standby → s.spray.state = .empty → s.tankOut = false →
    s.cfg.spray.tankLow + 5 ≤ s.conv.tank.value * 100 / 4096 → s.spray.refillTimer = some b →
      b + 5000000 ≤ s.now + m.dt →
        ∃ t, exec (.refill m) s = .next t ∧ t.spray.state = .off ∧ t.ctl.contrib.dust = none) ∧
  (∀ (m : Moment) (s : State) (b : Micros), s.takeable = false →
    s.ctl.mode = .sweep → s.ctl.sprayOn = true → s.spray.state = .spraying →
    s.tankOut = false → s.capture.flow.rate * 4 < s.spray.target → 200 ≤ s.spray.lastDuty →
      s.spray.dryRunTimer = some b → b + 3000000 ≤ s.now + m.dt → s.ctl.recordState .spray = none →
        ∃ t, exec (.dryRun m) s = .next t ∧ t.spray.code = some .dryRun ∧ t.spray.opened = [] ∧
          t.out.pump.shadow = 0 ∧
          (s.ctl.sprayCount.count < 3 →
            t.spray.state = .fault ∧ t.spray.recoveryTimer = some t.now ∧
              t.ctl.sprayCount.count = s.ctl.sprayCount.count + 1 ∧ t.ctl.recordState .spray = some .active) ∧
          (s.ctl.sprayCount.count = 3 → t.spray.state = .latched ∧ t.ctl.recordState .spray = some .latched)) ∧
  (∀ (m : Moment) (s : State) (b : Micros), s.takeable = false → s.ctl.mode ≠ .standby → s.spray.state = .fault →
    s.spray.recoveryTimer = some b → b + 10000000 ≤ s.now + m.dt → s.ctl.recordState .spray = some .active →
      ∃ t, exec (.sprayRecoveryDelayEnd m) s = .next t ∧ t.ctl.recordState .spray = some .recovering ∧
        t.spray.code = s.spray.code ∧ t.spray.state = if s.supplyLow = true then .held else .off)

/-! ### The peer table -/

/-- A STATE frame from another station, taken outside WAKING, replaces that station's record with the frame's fields in range, FRESH
and aged from zero with the announced period, keeping the expected flag; every other record stays. A claim from a lower number
makes a claiming drive YIELDED, its claim fault LATCHED. -/
def Obligations.ArrivalReplacesTheRecord : Prop :=
  ∀ (m : Moment) (f : BusFrame) (x : StateFrame) (s : State), s.takeable = false →
    s.link.receivingFrame = true → takenState f = some x →
    s.link.state ≠ .waking → x.station ≠ 0 → x.station ≠ 15 → x.station ≠ s.loader.station →
      ∃ t, exec (.stateFrameReceived m f) s = .next t ∧
        t.peers = s.peers.map (fun p =>
          if p.station = x.station then
            { p with
              fresh := .fresh, period := some (10 * max 1 (min 5 x.period)), age := some t.now,
              fields := some
                { cap := min x.cap 4000, claim := x.claim, pace := x.pace.map (clampInt (-4000) 4000),
                  budget := x.budget.map (min 2000), demand := x.demand.map (min 2000), reports := x.brushes.take 2 } }
          else p) ∧
        t.loader = s.loader ∧ t.brush0 = s.brush0 ∧ t.brush1 = s.brush1 ∧ t.spray = s.spray ∧ t.capture = s.capture ∧
        t.conv = s.conv ∧ t.ctl.queue = s.ctl.queue ∧
        (x.claim = true → x.station < s.loader.station → s.drive.state.claims = true →
          t.drive.state = .yielded ∧ t.out.driveF.shadow = 0 ∧ t.out.driveR.shadow = 0 ∧
            t.out.parkRelease = false ∧ t.out.boost = false ∧
            t.ctl.record .drive = some { source := .drive, code := .claim, state := .latched }) ∧
        (x.claim = false ∨ s.loader.station < x.station ∨ s.drive.state.claims = false → t.drive = s.drive)

/-- FRESH_EXPIRY: at an age of 3T a FRESH record of another station becomes STALE. No field of it changes, its age goes on running,
and every other record and block stays. STALE_EXPIRY: at an age of 25T a STALE record of another station becomes SILENT with its
fields kept and its age stopped when it is expected, and ABSENT with no fields when it is not; every other record stays, and the
lamp is lit by a silent expected peer. -/
def Obligations.RecordsAgeToStaleAndSilent : Prop :=
  (∀ (m : Moment) (n T b : Nat) (p : Peer) (s : State), s.takeable = false →
    s.Settled → s.out.Wf → s.PeersWf → s.peer n = some p →
    p.fresh = .fresh → p.period = some T → p.age = some b → b + 3 * T * 1000 ≤ s.now + m.dt →
      exec (.freshExpiry m n) s =
        .next ((s.arrive m).setPeers (s.peers.map fun q => if q.station = n then { q with fresh := .stale } else q))) ∧
  (∀ (m : Moment) (n T b : Nat) (p : Peer) (s : State), s.takeable = false →
    s.peer n = some p → p.fresh = .stale → p.period = some T →
    p.age = some b → b + 25 * T * 1000 ≤ s.now + m.dt →
      ∃ t, exec (.staleExpiry m n) s = .next t ∧
        t.peers = s.peers.map (fun q =>
          if q.station = n then
            (if q.expected = true then { q with fresh := .silent, age := none }
             else { q with fresh := .absent, period := none, age := none, fields := none })
          else q) ∧
        SameChannels s t ∧ t.loader = s.loader ∧ t.tableOwn = s.tableOwn ∧ t.link = s.link ∧ t.capture = s.capture ∧
        t.conv = s.conv ∧ t.ctl.bare = s.ctl.bare ∧ t.ctl.faults = s.ctl.faults ∧
        (p.expected = true → s.ctl.mode ≠ .standby → t.out.faultLamp = true))

/-- The effective cap is the least of the own cap, the caps of the FRESH and STALE records and, for each expected SILENT record, the
stale cap; ABSENT records and the place of the own number count nothing. It is the own cap where nothing else stands, at most
4000 with an own cap of at most 4000, and the travel demand never exceeds it, whatever direction is engaged. -/
def Obligations.EffectiveCapIsTheLeast : Prop :=
  ∀ s : State,
    let figures : List Nat := s.ctl.ownCap ::
      (s.peers.filter fun p => s.tableOwn != some p.station).flatMap fun p =>
        match p.fresh with
        | .fresh => (p.fields.map (·.cap)).toList
        | .stale => (p.fields.map (·.cap)).toList
        | .silent => if p.expected then [s.cfg.general.staleCap] else []
        | .absent => []
    s.effectiveCap ∈ figures ∧ (∀ v ∈ figures, s.effectiveCap ≤ v) ∧ (figures = [s.ctl.ownCap] → s.effectiveCap = s.ctl.ownCap) ∧
      (s.ctl.ownCap ≤ 4000 → s.effectiveCap ≤ 4000) ∧ ∀ d, s.demandFor d ≤ s.effectiveCap

/-- The drive owner is the lowest-numbered claimant: the own station while its drive is in STANDSTILL, DRIVING, TURNING, HELD or
LATCHED, and every FRESH or STALE record whose claim flag is set; without a claimant there is none. -/
def Obligations.DriveOwnerIsTheLowestClaimant : Prop :=
  ∀ s : State,
    let claims (n : Nat) : Prop :=
      (n = s.loader.station ∧
        (s.drive.state = .standstill ∨ s.drive.state = .driving ∨ s.drive.state = .turning ∨ s.drive.state = .held ∨
          s.drive.state = .latched)) ∨
      ∃ p ∈ s.peers, p.station = n ∧ s.tableOwn ≠ some n ∧ (p.fresh = .fresh ∨ p.fresh = .stale) ∧
        ∃ f, p.fields = some f ∧ f.claim = true
    (∀ n, s.owner = some n ↔ claims n ∧ ∀ k, claims k → n ≤ k) ∧ (s.owner = none ↔ ∀ n, ¬claims n)

/-- The sum of peer demands is the sum of the demand fields of the FRESH, STALE and SILENT records, the place of the own number
apart; ABSENT records and records without the field add nothing. With every field at most 2000 and 13 other records it is at most
26000. The pace view is unknown, and the budget view the fallback budget, without a drive owner; on the owner itself they are the
measured pace, unknown when blind, and the engine budget of the step; of another owner they are its record's fields, held when it is
STALE, unknown and the fallback budget where it has none. The peer brush state is the first report that names the channel in a FRESH
or STALE record of another station. -/
def Obligations.PeerDemandsAreSummed : Prop :=
  (∀ (s : State) (engine : Nat),
    let fallback := BudgetView.fallback s.cfg.general.fallbackBudget
    let self : Prop := s.drive.state ≠ .yielded ∧ s.drive.state ≠ .disabled
    (s.owner = none → s.paceView = .unknown ∧ s.budgetView engine = fallback) ∧
    (s.owner = some s.loader.station → self →
      s.budgetView engine = .known engine ∧
        s.paceView =
          (if s.drive.blind = true then .unknown
           else .known (if s.capture.reverse = true then -(s.capture.wheel.rate : Int) else s.capture.wheel.rate))) ∧
    (s.PeersWf → ∀ p ∈ s.peers, s.owner = some p.station → (p.station ≠ s.loader.station ∨ ¬self) →
      s.tableOwn ≠ some p.station →
        (p.fresh = .fresh ∨ p.fresh = .stale) ∧ ∃ f, p.fields = some f ∧
          s.paceView =
            (match f.pace with
             | none => .unknown
             | some v => if p.fresh = .fresh then .known v else .held v) ∧
          s.budgetView engine =
            (match f.budget with
             | none => fallback
             | some b => if p.fresh = .fresh then .known b else .held b)) ∧
    (s.PeersWf → ∀ p ∈ s.peers, ∀ channel,
      s.peerBrush p.station channel =
        if s.tableOwn ≠ some p.station ∧ (p.fresh = .fresh ∨ p.fresh = .stale) then
          (match p.fields with
           | some f => f.reports.find? fun r => r.channel == channel
           | none => none)
        else none)) ∧
  ∀ s : State,
    s.peerDemands =
        ((s.peers.filter fun p => s.tableOwn != some p.station).map fun p =>
          if p.fresh = .absent then 0 else (p.fields.bind (·.demand)).getD 0).sum ∧
      (s.PeersWf → (∃ n, s.tableOwn = some n ∧ 1 ≤ n ∧ n ≤ 14) →
        (∀ p ∈ s.peers, ∀ f, p.fields = some f → ∀ v, f.demand = some v → v ≤ 2000) → s.peerDemands ≤ 26000)

/-! ### The link -/

/-- The link rows that post nothing leave every other block, and the mode controller, as they are. -/
def Obligations.LinkRowsFrame : Prop :=
  ∀ (i : Instr) (s t : State), s.Settled → s.out.Wf → s.takeable = false → isLinkRow i = true → exec i s = .next t →
    SameChannels s t ∧ t.loader = s.loader ∧ t.tableOwn = s.tableOwn ∧ t.peers = s.peers ∧ t.capture = s.capture ∧
      t.conv = s.conv ∧ t.ctl = s.ctl ∧ t.out = s.out

/-- An addressed COMMAND frame taken outside WAKING joins the tail of a queue of fewer than 4, or is discarded from a full one
with the overrun flag set and the next discard number, 0 after 255; in WAKING, a WAKE takes the station out of STANDBY, and
nothing else is taken; a frame that does not name the station is ignored. The head is takeable in every mode but STANDBY, a MODE
head in PARKED, TRANSPORT, SWEEP and LIMP; a take removes it; and every command that is no take acts on the state in which all that
was takeable has been taken. A COMMAND frame is taken when its class is 0, its checks pass and its payload is a target mask of two
bytes, a kind of 1 to 7 and the argument of that kind; bit n of the mask names station n. That a take shows as a row of its own at the
moment at which its head became takeable, and that all that is takeable is taken before any later command, is the model's form
(DEDUCED, log 25). -/
def Obligations.CommandFramesReachTheQueue : Prop :=
  (∀ s : State,
    (s.takeable = true ↔
      ∃ c rest, s.ctl.queue = c :: rest ∧ s.ctl.mode ≠ .standby ∧
        ∀ code, c.kind = .mode code →
          s.ctl.mode = .parked ∨ s.ctl.mode = .transport ∨ s.ctl.mode = .sweep ∨ s.ctl.mode = .limp) ∧
    (s.takeable = false → s.takeDue = s) ∧
    (s.takeable = true →
      s.takeOne.ctl.queue = s.ctl.queue.drop 1 ∧ s.takeDue = s.takeOne.takeDue ∧
        ∀ m, ∃ i, isTakeRow i = true ∧ moment i = m ∧
          exec i s = .next ((if m.dt = 0 then s.takeOne else s.takeDue).arrive m)) ∧
    s.takeDue.takeable = false ∧
    ∀ i, isReset i = false → isTakeRow i = false → exec i s = exec i s.takeDue) ∧
  (∀ (f : BusFrame) (mask : Nat) (c : Command),
    takenCommand f = some (mask, c) ↔
      f.cls = 0#2 ∧ f.length.toNat = f.payload.length ∧ f.crc = crc16 (coveredBits f) ∧ f.endField = 127#7 ∧
        c.sender = f.station.toNat ∧ ∃ high low kind args, f.payload = high :: low :: kind :: args ∧
          mask = high.toNat * 256 + low.toNat ∧
          ((kind.toNat = 1 ∧ ∃ a, args = [a] ∧ c.kind = .mode a) ∨
            (kind.toNat = 2 ∧ ∃ a, args = [a] ∧ c.kind = .direction a) ∨
            (kind.toNat = 3 ∧ ∃ a b : Byte, args = [a, b] ∧ c.kind = .limit (a.toNat * 256 + b.toNat)) ∨
            (kind.toNat = 4 ∧ ∃ a, args = [a] ∧ c.kind = .brush a) ∨
            (kind.toNat = 5 ∧ ∃ a b, args = [a, b] ∧ c.kind = .spray a b) ∨
            (kind.toNat = 6 ∧ args = [] ∧ c.kind = .clear) ∨ (kind.toNat = 7 ∧ args = [] ∧ c.kind = .wake))) ∧
  (∀ mask n, addressed mask n = true ↔ 1 ≤ n ∧ n ≤ 14 ∧ mask / 2 ^ n % 2 = 1) ∧
  ∀ (m : Moment) (f : BusFrame) (mask : Nat) (c : Command) (s : State), s.takeable = false → s.link.receivingFrame = true →
    takenCommand f = some (mask, c) →
      ∃ t, exec (.commandFrameReceived m f) s = .next t ∧
        (addressed mask s.loader.station = true → s.link.state ≠ .waking → s.ctl.queue.length < 4 →
          t.ctl.queue = s.ctl.queue ++ [c] ∧ t.ctl.overrun = s.ctl.overrun ∧ t.ctl.discard = s.ctl.discard) ∧
        (addressed mask s.loader.station = true → s.link.state ≠ .waking → 4 ≤ s.ctl.queue.length →
          t.ctl.queue = s.ctl.queue ∧ t.ctl.overrun = true ∧ t.ctl.discard = (s.ctl.discard + 1) % 256) ∧
        (addressed mask s.loader.station = true → s.link.state = .waking → c.kind = .wake → s.ctl.mode = .standby →
          t.ctl.mode = s.ctl.standbyReturn ∧ t.conv.place = some .pedalA ∧
            (s.link.latched = false → t.link.state = .active ∧ t.link.pending.isSome = true)) ∧
        (addressed mask s.loader.station = false ∨ (s.link.state = .waking ∧ c.kind ≠ .wake) →
          t.ctl.queue = s.ctl.queue ∧ t.ctl.bare = s.ctl.bare ∧ t.ctl.faults = s.ctl.faults ∧ SameChannels s t ∧
            t.peers = s.peers)

/-- FRAME_DISCARD sets the receiver hunting: from zero after an unknown class or a length broken off (a STATE length outside 6 to 29,
a COMMAND length outside 3 to 5), else with the recessive bits that end the end field counted, 7 for a whole one. BUS_IDLE: a
hunting receiver that has counted 11 recessive bits is idle. START_BIT_TAKEN: an idle receiver follows the frame of a start bit.
Nothing else of the link changes. What is counted from an end field that did not pass whole, and BUS_IDLE's operands, are the
model's (log 26). -/
def Obligations.ReceiverFollowsTheBus : Prop :=
  (∀ (m : Moment) (f : BusFrame) (s : State), s.takeable = false → s.link.receivingFrame = true →
    f.payload.length = f.length.toNat → takenState f = none → takenCommand f = none →
      ∃ t, exec (.frameDiscard m f) s = .next t ∧
        t.link =
          { s.link with
            receiver := .hunting
            recessive :=
              if (f.cls = 0#2 ∧ 3 ≤ f.length.toNat ∧ f.length.toNat ≤ 5) ∨
                  (f.cls = 1#2 ∧ 6 ≤ f.length.toNat ∧ f.length.toNat ≤ 29) then trailingRecessive f.endField
              else 0 }) ∧
  (∀ e : BitVec 7, trailingRecessive e ≤ 7 ∧ (trailingRecessive e = 7 ↔ e = 127#7) ∧
    ∀ k ≤ 7, (k ≤ trailingRecessive e ↔ e.toNat % 2 ^ k = 2 ^ k - 1)) ∧
  (∀ (m : Moment) (restarted : Bool) (n : Nat) (s : State), s.takeable = false →
    s.link.state.receives = true → s.link.receiver = .hunting →
    s.link.inFlight = none → 11 ≤ (if restarted then n else s.link.recessive + n) →
      ∃ t, exec (.busIdle m restarted n) s = .next t ∧ t.link = { s.link with receiver := .idle, recessive := 11 }) ∧
  (∀ (m : Moment) (s : State), s.takeable = false →
    s.link.state.receives = true → s.link.receiver = .idle → s.link.inFlight = none →
    ∃ t, exec (.startBitTaken m) s = .next t ∧ t.link = { s.link with receiver := .receiving, recessive := 0 })

/-- PERIOD_TIMER_EXPIRY: at the configured period in ACTIVE the snapshot of the published values, with the present discard number,
replaces any pending frame; the frame in flight is left alone. The snapshot holds the station number, mode, period and flags, the
own cap, the pace of a claiming drive that is not blind, the budget of a claiming one, the demand with a brush enabled, a report for
each enabled channel, and the fault list in its order, each by the numbering of its code table. BUS_IDLE_START: with the bus idle in ACTIVE the pending frame goes in
flight; that any idle bus lets it start is the model's reading (DEDUCED, log 42). -/
def Obligations.FramesAreBuiltAndStarted : Prop :=
  let report (b : Brush) (k : Nat) : List BrushReport :=
    if b.state = .disabled then []
    else [{ channel := k, state := b.state.code, overrun := b.overrun, starved := b.starved }]
  (∀ (m : Moment) (s : State) (b : Micros), s.takeable = false → s.link.state = .active → s.link.periodTimer = some b →
    b + s.cfg.general.periodCode * 10000 ≤ s.now + m.dt →
      ∃ t snap, exec (.periodTimerExpiry m) s = .next t ∧
        t.link =
          { s.link with pending := some { snap := snap, discard := s.ctl.discard }, periodTimer := some t.now } ∧
        snap.station = s.loader.station ∧ snap.mode = s.ctl.mode.code ∧ snap.period = s.cfg.general.periodCode ∧
        (snap.claim = true ↔ s.drive.state ≠ .yielded ∧ s.drive.state ≠ .disabled) ∧ snap.overrun = s.ctl.overrun ∧
        snap.clamped = s.loader.clamped ∧ snap.rationed = s.ration.rationed ∧ (snap.limp = true ↔ s.ctl.mode = .limp) ∧
        snap.cap = s.ctl.ownCap ∧
        snap.pace = (if snap.claim = true ∧ s.drive.blind = false then some s.capture.pace else none) ∧
        snap.budget = (if snap.claim = true then some s.ration.engineBudget else none) ∧
        snap.demand =
          (if s.brush0.state = .disabled ∧ s.brush1.state = .disabled then none else some s.ration.demand) ∧
        snap.brushes = report s.brush0 0 ++ report s.brush1 1 ∧
        snap.spray =
          (if s.spray.state = .disabled then none
           else some
            { state := s.spray.state.code, tankLow := decide (s.spray.state = .empty ∨ s.spray.tankLow = true),
              opened := s.spray.opened }) ∧
        snap.faults =
          s.ctl.faults.map fun r => { source := r.source.code, state := r.state.code, code := r.code.code }) ∧
  ([Mode.limp, .warmup, .parked, .transport, .sweep, .stowing, .parking, .shutdown, .standby].map Mode.code = List.range 9 ∧
    [BrushState.stowed, .descending, .sweeping, .raising, .waiting, .held, .fault, .latched].map BrushState.code =
      List.range 8 ∧
    [SprayState.off, .priming, .spraying, .paused, .empty, .held, .fault, .latched].map SprayState.code = List.range 8 ∧
    [Source.config, .link, .supply, .drive, .brush0, .brush1, .spray].map Source.code = List.range 7 ∧
    [FaultCode.strap, .noMemory, .badMarker, .badLength, .badCrc, .schedule, .txErrors, .clash, .lowSupply, .pedal, .coilOpen,
        .coilShort, .wheelSensor, .claim, .noContact, .raiseTimeout, .overpressure, .stall, .sensor, .overrun,
        .dryRun].map FaultCode.code = List.range' 1 21 ∧
    [RecordState.active, .recovering, .latched].map RecordState.code = List.range 3) ∧
  (∀ (m : Moment) (f : OwnFrame) (s : State), s.takeable = false → s.link.state = .active → s.link.receiver = .idle →
    s.link.pending = some f → s.link.inFlight = none →
      ∃ t, exec (.busIdleStart m) s = .next t ∧ t.link.inFlight = some f ∧ t.link.pending = none ∧
        t.link.state = .active ∧ t.link.abandons = s.link.abandons)

/-- ARBITRATION_LOSS: the frame in flight goes back to pending unless a newer one is pending, or is dropped after a restart, and
the abandon count stays. BIT_ERROR: the frame is abandoned; in ACTIVE, and not after a restart, the count rises by 1, and the
eighth abandon makes the link LISTEN_ONLY with TX_ERRORS posted, its latched flag set when the count of the source was 3. The
bit that the command names tells the two rows apart (log 38). -/
def Obligations.FramesAreLostAndAbandoned : Prop :=
  (∀ (m : Moment) (bit : Nat) (f : OwnFrame) (s : State), s.takeable = false → s.link.inFlight = some f → bit ≤ 6 →
    ∃ t, exec (.arbitrationLoss m bit) s = .next t ∧ t.link.inFlight = none ∧ t.link.abandons = s.link.abandons ∧
      t.link.state = s.link.state ∧
      t.link.pending =
        if s.link.finishing = true then s.link.pending else some (s.link.pending.getD f)) ∧
  (∀ (m : Moment) (bit : Nat) (f : OwnFrame) (s : State), s.takeable = false →
    s.link.inFlight = some f → 7 ≤ bit → bit < f.bits →
    ∃ t, exec (.bitError m bit) s = .next t ∧ t.link.inFlight = none ∧
      (s.link.state ≠ .active ∨ s.link.finishing = true →
        t.link.abandons = s.link.abandons ∧ t.link.state = s.link.state) ∧
      (s.link.state = .active → s.link.finishing = false → s.link.abandons < 7 →
        t.link.abandons = s.link.abandons + 1 ∧ t.link.state = .active ∧ t.link.pending = s.link.pending) ∧
      (s.link.state = .active → s.link.finishing = false → s.link.abandons = 7 →
        t.link.state = .listenOnly ∧ t.link.abandons = 0 ∧ t.link.listenTimer = some t.now ∧ t.link.pending = none ∧
          t.link.periodTimer = none ∧ (t.ctl.record .link).map Record.code = some .txErrors ∧
          (s.ctl.recordState .link = none → s.ctl.linkCount.count < 3 →
            t.ctl.recordState .link = some .active ∧ t.ctl.linkCount.count = s.ctl.linkCount.count + 1) ∧
          (s.ctl.recordState .link = none → s.ctl.linkCount.count = 3 →
            t.ctl.recordState .link = some .latched ∧ t.link.latched = true)))

/-- SENT_TO_COMPLETION empties the in-flight place and gives the completion notice: an overrun flag carried with the present
discard number is cleared, with an older one it stays. In ACTIVE, and not after a restart, the abandon count is 0 and a
RECOVERING LINK record is removed. The 7 bits counted are those of the end field (log 26). -/
def Obligations.CompletionClearsWhatItReported : Prop :=
  ∀ (m : Moment) (f : OwnFrame) (s : State), s.takeable = false → s.link.inFlight = some f →
    ∃ t, exec (.sentToCompletion m) s = .next t ∧ t.link.inFlight = none ∧ t.link.pending = s.link.pending ∧
      t.link.state = s.link.state ∧ t.link.receiver = .hunting ∧ t.link.recessive = 7 ∧
      (f.snap.overrun = true → f.discard = s.ctl.discard → t.ctl.overrun = false) ∧
      (f.snap.overrun = false ∨ f.discard ≠ s.ctl.discard → t.ctl.overrun = s.ctl.overrun) ∧
      (s.link.state = .active → s.link.finishing = false →
        t.link.abandons = 0 ∧ (s.ctl.Wf → s.ctl.recordState .link = some .recovering → t.ctl.record .link = none)) ∧
      (s.link.state ≠ .active ∨ s.link.finishing = true →
        t.link.abandons = s.link.abandons ∧ t.ctl.faults = s.ctl.faults)

/-- LISTEN_TIMER_END and CLASH_QUIET_END return an unlatched link to ACTIVE, with its ACTIVE record RECOVERING and a frame built; a
latched link stays in LISTEN_ONLY at the end of its timer. RECEIVER_WAKE takes a dozing receiver that finishes nothing to WAKING
for 2000 ms, and WAKE_WINDOW_END takes it back. -/
def Obligations.LinkTimersEnd : Prop :=
  (∀ (m : Moment) (b : Micros) (s : State), s.takeable = false → s.link.state = .listenOnly → s.link.listenTimer = some b →
    b + 1000000 ≤ s.now + m.dt →
      ∃ t, exec (.listenTimerEnd m) s = .next t ∧ t.link.listenTimer = none ∧
        (s.link.latched = true → t.link.state = .listenOnly ∧ t.ctl.faults = s.ctl.faults) ∧
        (s.link.latched = false → t.link.state = .active ∧ t.link.pending.isSome = true ∧
          (s.ctl.recordState .link = some .active → t.ctl.recordState .link = some .recovering))) ∧
  (∀ (m : Moment) (b : Micros) (s : State), s.takeable = false → s.link.state = .silenced → s.link.latched = false →
    s.link.clashTimer = some b → b + 2000000 ≤ s.now + m.dt →
      ∃ t, exec (.clashQuietEnd m) s = .next t ∧ t.link.state = .active ∧ t.link.pending.isSome = true ∧
        (s.ctl.recordState .link = some .active → t.ctl.recordState .link = some .recovering)) ∧
  (∀ (m : Moment) (s : State), s.takeable = false → s.link.state = .dozing → s.link.inFlight = none →
    ∃ t, exec (.receiverWake m) s = .next t ∧ t.link.state = .waking ∧ t.link.wakeTimer = some t.now ∧
      t.link.receiver = .hunting ∧ t.link.recessive = 0) ∧
  (∀ (m : Moment) (b : Micros) (s : State), s.takeable = false → s.link.state = .waking → s.link.wakeTimer = some b →
    b + 2000000 ≤ s.now + m.dt →
      ∃ t, exec (.wakeWindowEnd m) s = .next t ∧ t.link.state = .dozing ∧ t.link.wakeTimer = none ∧
        t.link.pending = none)

/-- A good STATE frame with the own number that the own transmitter did not send is a clash. In ACTIVE and LISTEN_ONLY the link is
SILENCED and CLASH posted; in SILENCED it is absorbed; in each the quiet time starts from zero; in WAKING it is ignored. The peer
table takes nothing from it. -/
def Obligations.OwnNumberHeardIsAClash : Prop :=
  ∀ (m : Moment) (f : BusFrame) (x : StateFrame) (s : State), s.takeable = false →
    s.link.receivingFrame = true → takenState f = some x →
    x.station = s.loader.station → 1 ≤ x.station → x.station ≤ 14 →
      ∃ t, exec (.stateFrameReceived m f) s = .next t ∧ t.peers = s.peers ∧ SameChannels s t ∧
        (s.link.state = .active ∨ s.link.state = .listenOnly →
          t.link.state = .silenced ∧ t.link.clashTimer = some t.now ∧ t.link.pending = none ∧
            t.link.periodTimer = none ∧ t.link.listenTimer = (if s.link.state = .active then s.link.listenTimer else none) ∧
            (t.ctl.record .link).map Record.code = some .clash) ∧
        (s.link.state = .silenced →
          t.link.state = .silenced ∧ t.link.clashTimer = some t.now ∧ t.ctl.faults = s.ctl.faults) ∧
        (s.link.state = .waking →
          t.link.state = .waking ∧ t.link.clashTimer = s.link.clashTimer ∧ t.ctl.faults = s.ctl.faults)

/-! ### The mode controller -/

/-- A mode check takes STOWING to TRANSPORT when the brushes are finished, and STANDBY to the standby return when the ignition
is high, with the scan restarted and an unlatched dozing link ACTIVE. WARMUP_END makes the mode PARKED when the warm-up time has
passed; each with no ignition timing due. That the ignition timer is tested before the mode's own condition is the model's
choice (log 23); WARMUP_END is the whole mode check (log 4). -/
def Obligations.ModeCheckMovesTheStation : Prop :=
  (∀ (m : Moment) (s : State), s.takeable = false →
    s.loader.state = .done → s.ctl.mode = .stowing → s.brushesFinished = true →
    m.pins.ignition = true →
      ∃ t, exec (.modeCheck m) s = .next t ∧ t.ctl.mode = .transport ∧ SameChannels s t ∧ t.ctl.faults = s.ctl.faults) ∧
  (∀ (m : Moment) (s : State), s.takeable = false → s.loader.state = .done → s.ctl.mode = .standby → m.pins.ignition = true →
    ∃ t, exec (.modeCheck m) s = .next t ∧ t.ctl.mode = s.ctl.standbyReturn ∧ t.ctl.ignitionTimer = none ∧
      t.conv.place = some .pedalA ∧
      (s.link.state = .dozing → s.link.latched = false → t.link.state = .active ∧ t.link.pending.isSome = true) ∧
      (s.supplyLow = true → t.ctl.recordState .supply = some .active ∧ t.drive.state ≠ .standstill)) ∧
  (∀ (m : Moment) (s : State) (b : Micros), s.takeable = false → s.loader.state = .done → s.ctl.mode = .warmup →
    s.ctl.warmupTimer = some b → b + s.cfg.general.warmup * 1000 ≤ s.now + m.dt → m.pins.ignition = true →
      ∃ t, exec (.warmupEnd m) s = .next t ∧ t.ctl.mode = .parked ∧ t.ctl.warmupTimer = none ∧
        (s.supplyLow = false → t.out.forcing = false) ∧ t.ctl.queue = s.ctl.queue)

/-- REST_TIMER_END: with the brushes finished and the machine at rest for 1000 ms, PARKING becomes PARKED; SHUTDOWN becomes
WARMUP with the ignition high and STANDBY with it low. IGNITION_TIMER_END: an ignition low for 2000 ms takes the running modes
to SHUTDOWN and LIMP to STANDBY. In the modes that wait for neither, a mode check runs the rest timer while the machine is at
rest. Both rows are the whole mode check (DEDUCED, log 4); the ignition timer is tested first (log 23); that the rest timer runs in
every mode but STANDBY, from zero at an entry to PARKING or SHUTDOWN, is the model's reading (DEDUCED, log 24). -/
def Obligations.RestAndIgnitionTimersEnd : Prop :=
  (∀ (m : Moment) (s : State), s.takeable = false → s.loader.state = .done →
    (s.ctl.mode = .parked ∨ s.ctl.mode = .transport ∨ s.ctl.mode = .sweep ∨ s.ctl.mode = .limp) →
    m.pins.ignition = true →
      ∃ t, exec (.modeCheck m) s = .next t ∧ t.ctl.mode = s.ctl.mode ∧ t.ctl.ignitionTimer = none ∧
        t.ctl.restTimer = if s.atRest = true then some (s.ctl.restTimer.getD t.now) else none) ∧
  (∀ (m : Moment) (s : State) (b : Micros), s.takeable = false →
    s.loader.state = .done → (s.ctl.mode = .parking ∨ s.ctl.mode = .shutdown) →
    s.brushesFinished = true → s.atRest = true → s.ctl.restTimer = some b → b + 1000000 ≤ s.now + m.dt →
      (s.ctl.mode = .parking → m.pins.ignition = true) →
        ∃ t, exec (.restTimerEnd m) s = .next t ∧
          t.ctl.mode =
            (if s.ctl.mode = .parking then .parked else if m.pins.ignition = true then .warmup else .standby)) ∧
  (∀ (m : Moment) (s : State) (b : Micros), s.takeable = false → s.loader.state = .done → s.ctl.mode.timesIgnition = true →
    m.pins.ignition = false → s.ctl.ignitionTimer = some b → b + 2000000 ≤ s.now + m.dt →
      ∃ t, exec (.ignitionTimerEnd m) s = .next t ∧
        t.ctl.mode = (if s.ctl.mode = .limp then .standby else .shutdown) ∧ t.ctl.ignitionTimer = none)

/-- Entering STANDBY empties the queue and the operator's settings but for the limit and the spray rate, keeps of the fault list
the LATCHED records in their order and the counts of their sources, puts every channel on its STANDBY path by the state it is in,
clears every peer record, dozes the link, stops the converter scan and turns the lamp off and forcing on. The row is the whole mode
check (DEDUCED, log 4). -/
def Obligations.StandbyEntryQuietsEveryBlock : Prop :=
  ∀ (m : Moment) (s : State) (b : Micros), s.takeable = false → s.loader.state = .done → s.ctl.mode = .shutdown →
    s.brushesFinished = true → s.atRest = true → s.ctl.restTimer = some b → b + 1000000 ≤ s.now + m.dt →
    m.pins.ignition = false →
      ∃ t, exec (.restTimerEnd m) s = .next t ∧ t.ctl.mode = .standby ∧ t.ctl.queue = [] ∧ t.ctl.overrun = false ∧
        t.ctl.requested = .neutral ∧ t.ctl.select0 = false ∧ t.ctl.select1 = false ∧ t.ctl.sprayOn = false ∧
        t.ctl.limit = s.ctl.limit ∧ t.ctl.sprayRate = s.ctl.sprayRate ∧
        t.ctl.faults = s.ctl.faults.filter (fun r => r.state == .latched) ∧
        (s.ctl.Wf → ∀ k, (t.ctl.recovery k).count =
          if s.ctl.recordState (sourceOf k) = some .latched then (s.ctl.recovery k).count else 0) ∧
        t.drive.state =
          (if s.drive.state = .disabled ∨ s.drive.state = .yielded ∨ s.drive.state = .latched then s.drive.state
           else .standstill) ∧
        t.drive.engaged = .neutral ∧ t.drive.ramp = 0 ∧ t.drive.integ = 0 ∧ t.drive.prevRaw = 0 ∧ t.drive.pedal = 0 ∧
        t.drive.pedalFault = false ∧ t.drive.hold = none ∧ t.drive.boost = false ∧ t.drive.coilLatch = s.drive.coilLatch ∧
        t.drive.blind = s.drive.blind ∧ t.drive.stopTimer = none ∧ t.drive.turnTimer = none ∧ t.drive.blindTimer = none ∧
        t.drive.disagreeTimer = none ∧ t.drive.recoverTimer = none ∧ t.drive.boostTimer = none ∧
        t.out.driveF.shadow = 0 ∧ t.out.driveR.shadow = 0 ∧ t.out.parkRelease = false ∧ t.out.boost = false ∧
        (∀ c, t.out.armOff c ∧
          (t.brush c).state =
            (if (s.brush c).state = .latched ∨ (s.brush c).state = .disabled then (s.brush c).state else .stowed) ∧
          (t.brush c).starved = false ∧ (t.brush c).overrun = false ∧ (t.brush c).ceiling = none ∧ (t.brush c).trim = 0 ∧
          (t.brush c).prevDuty = 0 ∧ (t.brush c).lastDuty = 0 ∧ (t.brush c).recoveryTimer = none ∧
          (t.brush c).code = (s.brush c).code ∧ t.ctl.contrib.overrunOf c = none ∧
          t.ctl.contrib.transportOf c = none ∧ t.ctl.contrib.afterFaultOf c = none) ∧
        t.ration = Ration.reset ∧ t.ctl.contrib.ration = none ∧
        t.spray.state =
          (if s.spray.state = .latched ∨ s.spray.state = .disabled then s.spray.state else .off) ∧
        t.spray.opened = [] ∧ t.spray.wanted = [] ∧ t.spray.trim = 0 ∧ t.spray.target = 0 ∧ t.spray.prevDuty = 0 ∧
        t.spray.lastDuty = 0 ∧ t.spray.recoveryTimer = none ∧ t.out.pump.shadow = 0 ∧
        (s.spray.state ≠ .latched → t.ctl.contrib.dust = none) ∧
        (∀ p ∈ t.peers, p.fields = none ∧ p.age = none ∧ p.fresh = if p.expected = true then .silent else .absent) ∧
        (s.link.state = .active → t.link.state = .dozing ∧ t.link.pending = none) ∧
        t.capture = { Capture.reset with reverse := s.capture.reverse } ∧ t.conv.place = none ∧
        t.out.faultLamp = false ∧ t.out.forcing = true

/-- MODE takes the head of the queue in PARKED, TRANSPORT, SWEEP and LIMP and moves the mode by the table of its argument; an
argument that names none of the four modes, and any argument in LIMP, has no effect. Taking is a row of its own, at the moment the
head became takeable, and no other head is taken by then (DEDUCED, log 25). -/
def Obligations.ModeCommandMovesByTheTable : Prop :=
  ∀ (m : Moment) (code : Byte) (from_ : Nat) (rest : List Command) (s : State), s.takesAlone m →
    s.ctl.queue = { sender := from_, kind := .mode code } :: rest →
    (s.ctl.mode = .parked ∨ s.ctl.mode = .transport ∨ s.ctl.mode = .sweep ∨ s.ctl.mode = .limp) →
      ∃ t, exec (.mode m) s = .next t ∧ t.ctl.queue = rest ∧ SameChannels s t ∧ t.ctl.faults = s.ctl.faults ∧
        (s.ctl.mode = .limp → t.ctl.mode = .limp) ∧
        (code.toNat ≠ 2 → code.toNat ≠ 3 → code.toNat ≠ 4 → code.toNat ≠ 8 → t.ctl.mode = s.ctl.mode) ∧
        (s.ctl.mode ≠ .limp → code.toNat = 8 → t.ctl.mode = .shutdown) ∧
        (s.ctl.mode = .parked →
          (code.toNat = 2 → t.ctl.mode = .parked) ∧ (code.toNat = 3 → t.ctl.mode = .transport) ∧
          (code.toNat = 4 → t.ctl.mode = .sweep)) ∧
        (s.ctl.mode = .transport →
          (code.toNat = 2 → t.ctl.mode = .parking) ∧ (code.toNat = 3 → t.ctl.mode = .transport) ∧
          (code.toNat = 4 → t.ctl.mode = .sweep)) ∧
        (s.ctl.mode = .sweep →
          (code.toNat = 2 → t.ctl.mode = .parking) ∧ (code.toNat = 3 → t.ctl.mode = .stowing) ∧
          (code.toNat = 4 → t.ctl.mode = .sweep))

/-- DIRECTION, LIMIT, BRUSH, SPRAY and WAKE at the head of the queue are taken in every mode but STANDBY: the direction stored
(a value above 2 has no effect), the limit stored up to 4000 and the own cap within it, the brush selection replaced, the spray
setting replaced with its rate within 5 to 100, and WAKE without effect. No channel changes. Taking is a row of its own, at the
moment the head became takeable, and no other head is taken by then (DEDUCED, log 25); a BRUSH argument is a mask of channels (log 41). -/
def Obligations.SettingCommandsAreTaken : Prop :=
  ∀ (m : Moment) (from_ : Nat) (k : CmdKind) (rest : List Command) (s : State), s.takesAlone m →
    s.ctl.queue = { sender := from_, kind := k } :: rest → s.ctl.mode ≠ .standby →
      let taken (i : Instr) (p : State → Prop) : Prop :=
        ∃ t, exec i s = .next t ∧ t.ctl.queue = rest ∧ t.ctl.mode = s.ctl.mode ∧ t.ctl.faults = s.ctl.faults ∧
          SameChannels s t ∧ SameBlocks s t ∧ t.out.supply = s.out.supply ∧ p t
      (∀ code, k = .direction code → taken (.direction m) fun t =>
        t.ctl.requested =
            (if code.toNat = 0 then .neutral else if code.toNat = 1 then .fwd else if code.toNat = 2 then .rev
              else s.ctl.requested) ∧
          t.ctl.limit = s.ctl.limit ∧ t.ctl.select0 = s.ctl.select0 ∧ t.ctl.select1 = s.ctl.select1 ∧
          t.ctl.sprayOn = s.ctl.sprayOn ∧ t.ctl.sprayRate = s.ctl.sprayRate) ∧
      (∀ v, k = .limit v → taken (.limit m) fun t =>
        t.ctl.limit = min v 4000 ∧ t.ctl.ownCap ≤ min v 4000 ∧ t.ctl.requested = s.ctl.requested ∧
          t.ctl.select0 = s.ctl.select0 ∧ t.ctl.select1 = s.ctl.select1 ∧ t.ctl.sprayOn = s.ctl.sprayOn ∧
          t.ctl.sprayRate = s.ctl.sprayRate) ∧
      (∀ mask, k = .brush mask → taken (.brush m) fun t =>
        (t.ctl.select0 = true ↔ mask.toNat % 2 = 1) ∧ (t.ctl.select1 = true ↔ mask.toNat / 2 % 2 = 1) ∧
          t.ctl.requested = s.ctl.requested ∧ t.ctl.limit = s.ctl.limit ∧ t.ctl.sprayOn = s.ctl.sprayOn ∧
          t.ctl.sprayRate = s.ctl.sprayRate) ∧
      (∀ on rate, k = .spray on rate → taken (.spray m) fun t =>
        (t.ctl.sprayOn = true ↔ on.toNat % 2 = 1) ∧ t.ctl.sprayRate = max 5 (min 100 rate.toNat) ∧
          t.ctl.requested = s.ctl.requested ∧ t.ctl.limit = s.ctl.limit ∧ t.ctl.select0 = s.ctl.select0 ∧
          t.ctl.select1 = s.ctl.select1) ∧
      (k = .wake → taken (.wake m) fun t =>
        t.ctl.requested = s.ctl.requested ∧ t.ctl.limit = s.ctl.limit ∧ t.ctl.select0 = s.ctl.select0 ∧
          t.ctl.select1 = s.ctl.select1 ∧ t.ctl.sprayOn = s.ctl.sprayOn ∧ t.ctl.sprayRate = s.ctl.sprayRate)

/-- A CLEAR taken sets to 0 the count of every counted source whose record is not LATCHED and leaves CONFIG, ACTIVE and RECOVERING
records, an ACTIVE PEDAL record among them. Each source with a LATCHED record applies its test: DRIVE at rest with the pedal up for
a coil latch, stopped or not moving for blindness, no lower claimant for a YIELDED drive; a brush by its code, a usable pressure
of at most P_lim for OVERPRESSURE and STALL, a usable one for SENSOR, always for the others; SPRAY a VALID tank for SENSOR, always
for the others; LINK a bus quiet for 2000 ms. A test passed removes the record and takes the source to its restart state, one
failed leaves record, code and state. WINDOW_TIMER_EXPIRY sets a count to 0 after 60000 ms without a posting when the record is not
LATCHED. The take as a row of its own, at the moment the head became takeable, with no other head taken by then, is the model's form
(DEDUCED, log 25); the kept code of a released channel stays (DESIGN CHOICE, log 48); that a LATCHED or YIELDED drive goes to
STANDSTILL also during a SUPPLY condition is the model's reading (DEDUCED, log 30). -/
def Obligations.ClearTestsTheLatchedSources : Prop :=
  (∀ (m : Moment) (from_ : Nat) (rest : List Command) (s : State), s.ctl.Wf → s.takesAlone m →
    s.ctl.queue = { sender := from_, kind := .clear } :: rest → s.ctl.mode ≠ .standby →
      let lower : Prop := ∃ p ∈ s.peers, s.tableOwn ≠ some p.station ∧ p.station < s.loader.station ∧
        (p.fresh = .fresh ∨ p.fresh = .stale) ∧ ∃ f, p.fields = some f ∧ f.claim = true
      let drivePasses : Prop :=
        (s.drive.coilLatch = true →
          (if s.drive.blind = true then s.drive.ramp else s.capture.pace.natAbs) ≤ 30 ∧ s.drive.pedal = 0) ∧
        (s.drive.blind = true →
          s.drive.state = .standstill ∨ s.drive.state = .latched ∨ s.drive.state = .yielded) ∧
        (s.drive.state = .yielded → ¬lower)
      let brushPasses (c : Chan) (code : FaultCode) : Prop :=
        (code = .overpressure ∨ code = .stall →
          s.pressureStatus c ≠ .outOfRange ∧ s.pressure c ≤ (s.cfg.brush c).pLim) ∧
        (code = .sensor → s.pressureStatus c ≠ .outOfRange)
      ∃ t, exec (.clear m) s = .next t ∧ t.ctl.queue = rest ∧ t.ctl.mode = s.ctl.mode ∧
        (∀ k, s.ctl.recordState (sourceOf k) ≠ some .latched → (t.ctl.recovery k).count = 0) ∧
        (∀ src r, s.ctl.record src = some r → (src = .config ∨ r.state ≠ .latched) → t.ctl.record src = some r) ∧
        (s.ctl.recordState .drive = some .latched →
          (drivePasses →
            t.drive.coilLatch = false ∧ t.drive.blind = false ∧ t.drive.engaged = s.drive.engaged ∧
            (s.drive.state = .latched ∨ s.drive.state = .yielded →
              t.drive.state = .standstill ∧ t.drive.ramp = 0 ∧ t.drive.integ = 0 ∧ t.drive.prevRaw = 0) ∧
            (s.drive.state ≠ .latched → s.drive.state ≠ .yielded → t.drive.state = s.drive.state) ∧
            t.ctl.record .drive =
              if s.drive.pedalFault = true then some { source := .drive, code := .pedal, state := .active } else none) ∧
          (¬drivePasses → t.drive = s.drive ∧ t.ctl.record .drive = s.ctl.record .drive)) ∧
        (∀ c r, s.ctl.record (sourceOf (countedOf c)) = some r → r.state = .latched →
          (brushPasses c r.code →
            t.ctl.record (sourceOf (countedOf c)) = none ∧ (t.ctl.recovery (countedOf c)).count = 0 ∧
              ((s.brush c).state = .latched →
                (t.brush c).state = (if s.supplyLow = true then .held else .raising) ∧ (t.brush c).starved = false ∧
                  (t.brush c).code = (s.brush c).code)) ∧
          (¬brushPasses c r.code →
            t.ctl.record (sourceOf (countedOf c)) = some r ∧ t.brush c = s.brush c ∧
              (t.ctl.recovery (countedOf c)).count = (s.ctl.recovery (countedOf c)).count)) ∧
        (∀ r, s.ctl.record .spray = some r → r.state = .latched →
          ((r.code = .sensor → s.conv.tank.status = .valid) →
            t.ctl.record .spray = none ∧ t.ctl.sprayCount.count = 0 ∧
              (s.spray.state = .latched →
                t.spray.state = (if s.supplyLow = true then .held else .off) ∧ t.spray.trim = 0 ∧
                  t.spray.code = s.spray.code ∧ t.ctl.contrib.dust = none)) ∧
          (r.code = .sensor → s.conv.tank.status ≠ .valid →
            t.ctl.record .spray = some r ∧ t.spray = s.spray ∧ t.ctl.sprayCount.count = s.ctl.sprayCount.count)) ∧
        (s.ctl.recordState .link = some .latched →
          (s.link.clashTimer = none ∨ (∃ b, s.link.clashTimer = some b ∧ b + 2000000 ≤ s.now) →
            t.link.state = .active ∧ t.link.latched = false ∧ t.ctl.record .link = none ∧ t.ctl.linkCount.count = 0) ∧
          (∀ b, s.link.clashTimer = some b → s.now < b + 2000000 →
            t.link = s.link ∧ t.ctl.record .link = s.ctl.record .link))) ∧
  (∀ (m : Moment) (k : Counted) (b : Micros) (s : State), s.takeable = false →
    s.ctl.recordState (sourceOf k) ≠ some .latched →
    (s.ctl.recovery k).window = some b → b + 60000000 ≤ s.now + m.dt →
      ∃ t, exec (.windowTimerExpiry m k) s = .next t ∧ (t.ctl.recovery k).count = 0 ∧
        t.ctl.faults = s.ctl.faults ∧ (∀ j, j ≠ k → t.ctl.recovery j = s.ctl.recovery j) ∧ SameChannels s t ∧
        SameBlocks s t)

/-! ### The capture unit -/

/-- RISING_EDGE, taken within the zero-rate timeout. Without a reference edge it becomes the reference. Closer than 50 µs to it,
it is rejected and changes nothing. On WHEEL with a changed WHEEL_B, the history is emptied, the direction taken and the rate 0.
Else the period joins the history, which keeps its 4 newest, and the rate is formed from their average. Other inputs stay.
ZERO_RATE_TIMEOUT empties the input, keeping the direction. An edge after the timeout is left to log 27. -/
def Obligations.EdgesFormPeriodsAndRates : Prop :=
  (∀ (m : Moment) (k : Pulse) (s : State), s.takeable = false → s.captures k = true →
    (∀ b, (s.capture.input k).zeroTimer = some b → s.now + m.dt ≤ b + s.cfg.zeroTimeout k * 1000) →
      ∃ t, exec (.risingEdge m k) s = .next t ∧ (∀ j, j ≠ k → t.capture.input j = s.capture.input j) ∧
        SameChannels s t ∧ t.conv = s.conv ∧ t.link = s.link ∧ t.peers = s.peers ∧ t.ctl.bare = s.ctl.bare ∧
        ((s.capture.input k).reference = none →
          (t.capture.input k).reference = some t.now ∧ (t.capture.input k).zeroRate = false ∧
            (t.capture.input k).zeroTimer = some t.now ∧
            ((s.capture.input k).history = [] → (s.capture.input k).rate = 0 →
              (t.capture.input k).history = [] ∧ (t.capture.input k).rate = 0)) ∧
        (∀ r, (s.capture.input k).reference = some r → s.now + m.dt - r < 50 → t.capture = s.capture) ∧
        (∀ r, (s.capture.input k).reference = some r → 50 ≤ s.now + m.dt - r →
          (t.capture.input k).reference = some t.now ∧ (t.capture.input k).zeroTimer = some t.now ∧
          (k = .wheel → t.capture.reverse = m.pins.wheelB ∧
            (m.pins.wheelB ≠ s.capture.reverse → t.capture.wheel.history = [] ∧ t.capture.pace = 0)) ∧
          (k ≠ .wheel ∨ m.pins.wheelB = s.capture.reverse →
            ∃ h, h = (if 4 ≤ (s.capture.input k).history.length then (s.capture.input k).history.drop 1
                else (s.capture.input k).history) ++ [s.now + m.dt - r] ∧
              (t.capture.input k).history = h ∧
              (t.capture.input k).rate =
                match k with
                | .wheel => min 4000 (s.cfg.drive.tooth * 360 / (h.sum / h.length))
                | .engine => min 4000 (60000000 / (h.sum / h.length * s.cfg.drive.enginePulses))
                | .brush0 => min 600 (60000000 / (h.sum / h.length * s.cfg.brush0.pulses))
                | .brush1 => min 600 (60000000 / (h.sum / h.length * s.cfg.brush1.pulses))
                | .flow => min 60000 (60000000000 / (h.sum / h.length * s.cfg.spray.pulsesPerLitre))))) ∧
  (∀ (m : Moment) (k : Pulse) (b : Micros) (s : State), s.takeable = false → s.captures k = true →
    (s.capture.input k).zeroTimer = some b → b + s.cfg.zeroTimeout k * 1000 ≤ s.now + m.dt →
      ∃ t, exec (.zeroRateTimeout m k) s = .next t ∧
        t.capture.input k = { reference := none, history := [], rate := 0, zeroRate := true, zeroTimer := none } ∧
        (∀ j, j ≠ k → t.capture.input j = s.capture.input j) ∧ t.capture.reverse = s.capture.reverse ∧
        SameChannels s t ∧ t.conv = s.conv)

/-! ### The converter and the output stage -/

/-- A single-pass conversion writes its entry, value and status together: the value is the code times 16, a multiple of 16 from 0 to
4080; the status is OUT_OF_RANGE below 82 and above 4013 and VALID else, and VALID always on a sense input. Every other entry is
held, and the scan goes on. -/
def Obligations.SinglePassWritesItsEntry : Prop :=
  ∀ (m : Moment) (code : Byte) (k : Slot) (s : State), s.takeable = false → s.conv.place = some k → s.ctl.mode ≠ .standby →
    (k = .pedalA ∨ k = .pedalB ∨ k = .tank ∨ k = .supply ∨ k = .senseDF ∨ k = .senseDR ∨ k = .senseB0 ∨ k = .senseB1 ∨
      k = .sensePump) →
      ∃ t e, exec (.singleConversion m code) s = .next t ∧ WroteEntry s.conv t.conv k e ∧
        t.conv.place = some k.next ∧ t.conv.coarse = s.conv.coarse ∧ e.value = code.toNat * 16 ∧ e.value % 16 = 0 ∧
        e.value ≤ 4080 ∧
        e.status =
          (if k = .pedalA ∨ k = .pedalB ∨ k = .tank ∨ k = .supply then
            (if e.value < 82 ∨ 4013 < e.value then .outOfRange else .valid)
          else .valid)

/-- COARSE_CONVERSION holds its code and writes no entry. FINE_CONVERSION forms the value over the window of three steps that the
coarse code chose: a fine code at an edge of the window inside the scale gives the coarse value, SETTLING; a value below 82 or
above 4013 is OUT_OF_RANGE in either case. Nothing outside the converter changes. -/
def Obligations.TwoPassConversionOfThePressures : Prop :=
  (∀ (m : Moment) (code : Byte) (k : Slot) (s : State), s.takeable = false → s.Settled → s.out.Wf → s.conv.place = some k →
    (k = .press0Coarse ∨ k = .press1Coarse) →
      exec (.coarseConversion m code) s =
        .next ((s.arrive m).setConv { s.conv with place := some k.next, coarse := some code.toNat })) ∧
  (∀ (m : Moment) (code : Byte) (k : Slot) (c : Nat) (s : State), s.takeable = false →
    s.Settled → s.out.Wf → s.conv.place = some k →
    (k = .press0Fine ∨ k = .press1Fine) → s.conv.coarse = some c → c < 256 →
      ∃ x e low, exec (.fineConversion m code) s = .next ((s.arrive m).setConv x) ∧ WroteEntry s.conv x k e ∧
        x.place = some k.next ∧ x.coarse = none ∧
        low = (if c / 16 = 0 then 0 else if 13 < c / 16 - 1 then 13 else c / 16 - 1) ∧
        (¬((code.toNat = 0 ∧ 0 < low) ∨ (code.toNat = 255 ∧ low < 13)) →
          e.value = low * 256 + code.toNat * 3 ∧
            e.status = if e.value < 82 ∨ 4013 < e.value then .outOfRange else .valid) ∧
        ((code.toNat = 0 ∧ 0 < low) ∨ (code.toNat = 255 ∧ low < 13) →
          e.value = c * 16 ∧ e.status = if e.value < 82 ∨ 4013 < e.value then .outOfRange else .settling))

/-- PWM_PERIOD_START: at the end of its period an output loads its active duty from its shadow; a short-off mark ends with a
loaded duty of 0, the open test is armed again below 200, and the output runs unless forcing holds it. The notice of the old
coil ends the coil hold. Every other output stays. A running output that is not forced or switched off is active for the part of
its period that its duty gives, and at a duty of 1000 until its next period start. A period start that comes late starts its period
when it comes (log 39). -/
def Obligations.PeriodStartLoadsTheDuty : Prop :=
  (∀ (c : Coil) (now b : Micros) (s : State), s.out.forcing = false → (s.out.coil c).shortOff = false →
    (s.out.coil c).running = true → (s.out.coil c).start = some b →
      (1000 ≤ (s.out.coil c).duty → s.coilActive c now = true) ∧
      ((s.out.coil c).duty < 1000 →
        (s.coilActive c now = true ↔ (now - b) * 1000 < (s.out.coil c).duty * ((s.cfg.coil c).period * 100)))) ∧
  ∀ (m : Moment) (c : Coil) (b : Micros) (s : State), s.takeable = false →
    s.Settled → s.out.Wf → (s.out.coil c).start = some b →
    b + (s.cfg.coil c).period * 100 ≤ s.now + m.dt →
      ∃ t, exec (.pwmPeriodStart m c) s = .next t ∧ (t.out.coil c).duty = (s.out.coil c).shadow ∧
        (t.out.coil c).shadow = (s.out.coil c).shadow ∧ (t.out.coil c).start = some t.now ∧
        ((s.out.coil c).shadow = 0 → (t.out.coil c).shortOff = false) ∧
        ((s.out.coil c).shadow ≠ 0 → (t.out.coil c).shortOff = (s.out.coil c).shortOff) ∧
        ((s.out.coil c).shadow < 200 → (t.out.coil c).openArmed = true) ∧
        (200 ≤ (s.out.coil c).shadow → (t.out.coil c).openArmed = (s.out.coil c).openArmed) ∧
        (t.out.coil c).running = !s.out.forcing ∧ (∀ d, d ≠ c → t.out.coil d = s.out.coil d) ∧
        (c = .driveF → s.drive.hold = some .rev → t.drive.hold = none) ∧
        (c = .driveR → s.drive.hold = some .fwd → t.drive.hold = none) ∧
        (s.drive.hold = none → t.drive = s.drive) ∧ t.ctl = s.ctl ∧ t.link = s.link ∧ t.peers = s.peers

/-- A sense conversion above the short threshold on a driven output that is not forced off switches it off, sets its short-off
mark and stops its open timer, and the owner takes COIL_SHORT. COIL_OPEN_DETECT: a current below the open threshold at a duty of 200
or more for 200 ms disarms the open test, and the owner takes COIL_OPEN. Both hold for each of the five outputs. The drive takes a
report in STANDSTILL, DRIVING, TURNING and HELD by being LATCHED with both coils at 0, in LATCHED by the new code, in YIELDED by its
coil latch flag; a brush in STOWED, DESCENDING, SWEEPING, RAISING and WAITING, and the spray in OFF, PRIMING, SPRAYING, PAUSED and
EMPTY, by a fault of the common rule; in every other state they absorb it. COIL_OPEN_DETECT is the whole conversion (DEDUCED, log
4). -/
def Obligations.CoilFaultsAreReported : Prop :=
  ∀ (m : Moment) (code : Byte) (k : Slot) (c : Coil) (s : State), s.takeable = false → s.ctl.mode ≠ .standby →
    s.conv.place = some k →
    (k = .senseDF ∧ c = .driveF ∨ k = .senseDR ∧ c = .driveR ∨ k = .senseB0 ∧ c = .brush0 ∨ k = .senseB1 ∧ c = .brush1 ∨
      k = .sensePump ∧ c = .pump) →
    s.out.forcing = false → (s.out.coil c).shortOff = false →
      ((s.cfg.coil c).shortLevel < code.toNat * 16 → 0 < (s.out.coil c).duty →
        ∃ t, exec (.singleConversion m code) s = .next t ∧ (t.out.coil c).shortOff = true ∧
          (t.out.coil c).openTimer = none ∧ CoilReported s t c .coilShort) ∧
      (code.toNat * 16 ≤ (s.cfg.coil c).shortLevel → code.toNat * 16 < (s.cfg.coil c).openLevel →
        200 ≤ (s.out.coil c).duty → (s.out.coil c).openArmed = true →
        ∀ b, (s.out.coil c).openTimer = some b → b + 200000 ≤ s.now + m.dt →
          ∃ t, exec (.coilOpenDetect m code) s = .next t ∧ (t.out.coil c).openArmed = false ∧
            (t.out.coil c).openTimer = none ∧ CoilReported s t c .coilOpen)

/-- SUPPLY_START: a SUPPLY value below the start level (8.50 V, or 17.00 V in a 24 V system) for 50 ms makes the condition LOW:
forcing on, an ACTIVE SUPPLY record, an own cap of 0, and every channel that is not DISABLED, YIELDED, FAULT or LATCHED in HELD with
its outputs off. SUPPLY_RELEASE: a value at or above the release level (9.00 V, 18.00 V) for 200 ms makes it NORMAL: the record
removed, the drive from HELD to STANDSTILL, the spray to OFF, a brush to STOWED or RAISING by its arm, and forcing off outside WARMUP
and STANDBY. Both rows are the whole conversion (DEDUCED, log 4). -/
def Obligations.SupplyConditionStartsAndEnds : Prop :=
  (∀ (m : Moment) (code : Byte) (b : Micros) (s : State), s.takeable = false →
    s.loader.state = .done → s.ctl.mode ≠ .standby →
    s.conv.place = some .supply → s.out.supply = .normal →
    code.toNat * 16 < (if s.cfg.general.voltage = 0 then 850 else 1700) → s.out.startTimer = some b →
    b + 50000 ≤ s.now + m.dt →
      ∃ t, exec (.supplyStart m code) s = .next t ∧ t.out.supply = .low ∧ t.out.forcing = true ∧ t.ctl.ownCap = 0 ∧
        t.ctl.record .supply = some { source := .supply, code := .lowSupply, state := .active } ∧
        (s.drive.state = .standstill ∨ s.drive.state = .driving ∨ s.drive.state = .turning →
          t.drive.state = .held ∧ t.drive.ramp = 0 ∧ t.drive.integ = 0 ∧ t.drive.prevRaw = 0 ∧ t.drive.hold = none ∧
            t.out.driveF.shadow = 0 ∧ t.out.driveR.shadow = 0 ∧ t.out.parkRelease = false) ∧
        (s.drive.state = .disabled ∨ s.drive.state = .yielded ∨ s.drive.state = .held ∨ s.drive.state = .latched →
          t.drive = s.drive) ∧
        (∀ c,
          ((s.brush c).state = .stowed ∨ (s.brush c).state = .descending ∨ (s.brush c).state = .sweeping ∨
              (s.brush c).state = .raising ∨ (s.brush c).state = .waiting →
            (t.brush c).state = .held ∧ (t.brush c).starved = false ∧ (t.brush c).overrun = false ∧ t.out.armOff c) ∧
          ((s.brush c).state = .disabled ∨ (s.brush c).state = .held ∨ (s.brush c).state = .fault ∨
              (s.brush c).state = .latched →
            t.brush c = s.brush c)) ∧
        (s.spray.state = .off ∨ s.spray.state = .priming ∨ s.spray.state = .spraying ∨ s.spray.state = .paused ∨
            s.spray.state = .empty →
          t.spray.state = .held ∧ t.spray.opened = [] ∧ t.spray.trim = 0 ∧ t.out.pump.shadow = 0 ∧
            t.ctl.contrib.dust = none) ∧
        (s.spray.state = .disabled ∨ s.spray.state = .held ∨ s.spray.state = .fault ∨ s.spray.state = .latched →
          t.spray = s.spray)) ∧
  (∀ (m : Moment) (code : Byte) (b : Micros) (s : State), s.takeable = false →
    s.loader.state = .done → s.ctl.mode ≠ .standby →
    s.conv.place = some .supply → s.out.supply = .low →
    (if s.cfg.general.voltage = 0 then 900 else 1800) ≤ code.toNat * 16 → s.out.releaseTimer = some b →
    b + 200000 ≤ s.now + m.dt →
      ∃ t, exec (.supplyRelease m code) s = .next t ∧ t.out.supply = .normal ∧ t.ctl.record .supply = none ∧
        (s.ctl.mode ≠ .warmup → t.out.forcing = false) ∧ (s.drive.state = .held → t.drive.state = .standstill) ∧
        (s.spray.state = .held → t.spray.state = .off) ∧
        (∀ c, (s.brush c).state = .held →
          (t.brush c).state = if armUpOf m.pins c = true then .stowed else .raising))
end

