-- ==== Sys2Proof/Laws/State.lean ====
section
/-! SUPPORT. One lemma per field for every named update of State: the field it writes, and the fields it leaves alone. -/

namespace Sys2Proof.Machine


/-! ### `setLoader` -/

@[simp] theorem State.setLoader_now (s : State) (x : Loader) : (s.setLoader x).now = s.now := rfl
@[simp] theorem State.setLoader_pins (s : State) (x : Loader) : (s.setLoader x).pins = s.pins := rfl
@[simp] theorem State.setLoader_loader (s : State) (x : Loader) : (s.setLoader x).loader = x := rfl
@[simp] theorem State.setLoader_drive (s : State) (x : Loader) : (s.setLoader x).drive = s.drive := rfl
@[simp] theorem State.setLoader_brush0 (s : State) (x : Loader) : (s.setLoader x).brush0 = s.brush0 := rfl
@[simp] theorem State.setLoader_brush1 (s : State) (x : Loader) : (s.setLoader x).brush1 = s.brush1 := rfl
@[simp] theorem State.setLoader_ration (s : State) (x : Loader) : (s.setLoader x).ration = s.ration := rfl
@[simp] theorem State.setLoader_spray (s : State) (x : Loader) : (s.setLoader x).spray = s.spray := rfl
@[simp] theorem State.setLoader_tableOwn (s : State) (x : Loader) : (s.setLoader x).tableOwn = s.tableOwn := rfl
@[simp] theorem State.setLoader_peers (s : State) (x : Loader) : (s.setLoader x).peers = s.peers := rfl
@[simp] theorem State.setLoader_link (s : State) (x : Loader) : (s.setLoader x).link = s.link := rfl
@[simp] theorem State.setLoader_ctl (s : State) (x : Loader) : (s.setLoader x).ctl = s.ctl := rfl
@[simp] theorem State.setLoader_capture (s : State) (x : Loader) : (s.setLoader x).capture = s.capture := rfl
@[simp] theorem State.setLoader_conv (s : State) (x : Loader) : (s.setLoader x).conv = s.conv := rfl
@[simp] theorem State.setLoader_out (s : State) (x : Loader) : (s.setLoader x).out = s.out := rfl
@[simp] theorem State.setLoader_pending (s : State) (x : Loader) : (s.setLoader x).pending = s.pending := rfl

/-! ### `setDrive` -/

@[simp] theorem State.setDrive_now (s : State) (x : Drive) : (s.setDrive x).now = s.now := rfl
@[simp] theorem State.setDrive_pins (s : State) (x : Drive) : (s.setDrive x).pins = s.pins := rfl
@[simp] theorem State.setDrive_loader (s : State) (x : Drive) : (s.setDrive x).loader = s.loader := rfl
@[simp] theorem State.setDrive_drive (s : State) (x : Drive) : (s.setDrive x).drive = x := rfl
@[simp] theorem State.setDrive_brush0 (s : State) (x : Drive) : (s.setDrive x).brush0 = s.brush0 := rfl
@[simp] theorem State.setDrive_brush1 (s : State) (x : Drive) : (s.setDrive x).brush1 = s.brush1 := rfl
@[simp] theorem State.setDrive_ration (s : State) (x : Drive) : (s.setDrive x).ration = s.ration := rfl
@[simp] theorem State.setDrive_spray (s : State) (x : Drive) : (s.setDrive x).spray = s.spray := rfl
@[simp] theorem State.setDrive_tableOwn (s : State) (x : Drive) : (s.setDrive x).tableOwn = s.tableOwn := rfl
@[simp] theorem State.setDrive_peers (s : State) (x : Drive) : (s.setDrive x).peers = s.peers := rfl
@[simp] theorem State.setDrive_link (s : State) (x : Drive) : (s.setDrive x).link = s.link := rfl
@[simp] theorem State.setDrive_ctl (s : State) (x : Drive) : (s.setDrive x).ctl = s.ctl := rfl
@[simp] theorem State.setDrive_capture (s : State) (x : Drive) : (s.setDrive x).capture = s.capture := rfl
@[simp] theorem State.setDrive_conv (s : State) (x : Drive) : (s.setDrive x).conv = s.conv := rfl
@[simp] theorem State.setDrive_out (s : State) (x : Drive) : (s.setDrive x).out = s.out := rfl
@[simp] theorem State.setDrive_pending (s : State) (x : Drive) : (s.setDrive x).pending = s.pending := rfl

/-! ### `setRation` -/

@[simp] theorem State.setRation_now (s : State) (x : Ration) : (s.setRation x).now = s.now := rfl
@[simp] theorem State.setRation_pins (s : State) (x : Ration) : (s.setRation x).pins = s.pins := rfl
@[simp] theorem State.setRation_loader (s : State) (x : Ration) : (s.setRation x).loader = s.loader := rfl
@[simp] theorem State.setRation_drive (s : State) (x : Ration) : (s.setRation x).drive = s.drive := rfl
@[simp] theorem State.setRation_brush0 (s : State) (x : Ration) : (s.setRation x).brush0 = s.brush0 := rfl
@[simp] theorem State.setRation_brush1 (s : State) (x : Ration) : (s.setRation x).brush1 = s.brush1 := rfl
@[simp] theorem State.setRation_ration (s : State) (x : Ration) : (s.setRation x).ration = x := rfl
@[simp] theorem State.setRation_spray (s : State) (x : Ration) : (s.setRation x).spray = s.spray := rfl
@[simp] theorem State.setRation_tableOwn (s : State) (x : Ration) : (s.setRation x).tableOwn = s.tableOwn := rfl
@[simp] theorem State.setRation_peers (s : State) (x : Ration) : (s.setRation x).peers = s.peers := rfl
@[simp] theorem State.setRation_link (s : State) (x : Ration) : (s.setRation x).link = s.link := rfl
@[simp] theorem State.setRation_ctl (s : State) (x : Ration) : (s.setRation x).ctl = s.ctl := rfl
@[simp] theorem State.setRation_capture (s : State) (x : Ration) : (s.setRation x).capture = s.capture := rfl
@[simp] theorem State.setRation_conv (s : State) (x : Ration) : (s.setRation x).conv = s.conv := rfl
@[simp] theorem State.setRation_out (s : State) (x : Ration) : (s.setRation x).out = s.out := rfl
@[simp] theorem State.setRation_pending (s : State) (x : Ration) : (s.setRation x).pending = s.pending := rfl

/-! ### `setPeers` -/

@[simp] theorem State.setPeers_now (s : State) (x : List Peer) : (s.setPeers x).now = s.now := rfl
@[simp] theorem State.setPeers_pins (s : State) (x : List Peer) : (s.setPeers x).pins = s.pins := rfl
@[simp] theorem State.setPeers_loader (s : State) (x : List Peer) : (s.setPeers x).loader = s.loader := rfl
@[simp] theorem State.setPeers_drive (s : State) (x : List Peer) : (s.setPeers x).drive = s.drive := rfl
@[simp] theorem State.setPeers_brush0 (s : State) (x : List Peer) : (s.setPeers x).brush0 = s.brush0 := rfl
@[simp] theorem State.setPeers_brush1 (s : State) (x : List Peer) : (s.setPeers x).brush1 = s.brush1 := rfl
@[simp] theorem State.setPeers_ration (s : State) (x : List Peer) : (s.setPeers x).ration = s.ration := rfl
@[simp] theorem State.setPeers_spray (s : State) (x : List Peer) : (s.setPeers x).spray = s.spray := rfl
@[simp] theorem State.setPeers_tableOwn (s : State) (x : List Peer) : (s.setPeers x).tableOwn = s.tableOwn := rfl
@[simp] theorem State.setPeers_peers (s : State) (x : List Peer) : (s.setPeers x).peers = x := rfl
@[simp] theorem State.setPeers_link (s : State) (x : List Peer) : (s.setPeers x).link = s.link := rfl
@[simp] theorem State.setPeers_ctl (s : State) (x : List Peer) : (s.setPeers x).ctl = s.ctl := rfl
@[simp] theorem State.setPeers_capture (s : State) (x : List Peer) : (s.setPeers x).capture = s.capture := rfl
@[simp] theorem State.setPeers_conv (s : State) (x : List Peer) : (s.setPeers x).conv = s.conv := rfl
@[simp] theorem State.setPeers_out (s : State) (x : List Peer) : (s.setPeers x).out = s.out := rfl
@[simp] theorem State.setPeers_pending (s : State) (x : List Peer) : (s.setPeers x).pending = s.pending := rfl

/-! ### `setLink` -/

@[simp] theorem State.setLink_now (s : State) (x : Link) : (s.setLink x).now = s.now := rfl
@[simp] theorem State.setLink_pins (s : State) (x : Link) : (s.setLink x).pins = s.pins := rfl
@[simp] theorem State.setLink_loader (s : State) (x : Link) : (s.setLink x).loader = s.loader := rfl
@[simp] theorem State.setLink_drive (s : State) (x : Link) : (s.setLink x).drive = s.drive := rfl
@[simp] theorem State.setLink_brush0 (s : State) (x : Link) : (s.setLink x).brush0 = s.brush0 := rfl
@[simp] theorem State.setLink_brush1 (s : State) (x : Link) : (s.setLink x).brush1 = s.brush1 := rfl
@[simp] theorem State.setLink_ration (s : State) (x : Link) : (s.setLink x).ration = s.ration := rfl
@[simp] theorem State.setLink_spray (s : State) (x : Link) : (s.setLink x).spray = s.spray := rfl
@[simp] theorem State.setLink_tableOwn (s : State) (x : Link) : (s.setLink x).tableOwn = s.tableOwn := rfl
@[simp] theorem State.setLink_peers (s : State) (x : Link) : (s.setLink x).peers = s.peers := rfl
@[simp] theorem State.setLink_link (s : State) (x : Link) : (s.setLink x).link = x := rfl
@[simp] theorem State.setLink_ctl (s : State) (x : Link) : (s.setLink x).ctl = s.ctl := rfl
@[simp] theorem State.setLink_capture (s : State) (x : Link) : (s.setLink x).capture = s.capture := rfl
@[simp] theorem State.setLink_conv (s : State) (x : Link) : (s.setLink x).conv = s.conv := rfl
@[simp] theorem State.setLink_out (s : State) (x : Link) : (s.setLink x).out = s.out := rfl
@[simp] theorem State.setLink_pending (s : State) (x : Link) : (s.setLink x).pending = s.pending := rfl

/-! ### `setCtl` -/

@[simp] theorem State.setCtl_now (s : State) (x : Controller) : (s.setCtl x).now = s.now := rfl
@[simp] theorem State.setCtl_pins (s : State) (x : Controller) : (s.setCtl x).pins = s.pins := rfl
@[simp] theorem State.setCtl_loader (s : State) (x : Controller) : (s.setCtl x).loader = s.loader := rfl
@[simp] theorem State.setCtl_drive (s : State) (x : Controller) : (s.setCtl x).drive = s.drive := rfl
@[simp] theorem State.setCtl_brush0 (s : State) (x : Controller) : (s.setCtl x).brush0 = s.brush0 := rfl
@[simp] theorem State.setCtl_brush1 (s : State) (x : Controller) : (s.setCtl x).brush1 = s.brush1 := rfl
@[simp] theorem State.setCtl_ration (s : State) (x : Controller) : (s.setCtl x).ration = s.ration := rfl
@[simp] theorem State.setCtl_spray (s : State) (x : Controller) : (s.setCtl x).spray = s.spray := rfl
@[simp] theorem State.setCtl_tableOwn (s : State) (x : Controller) : (s.setCtl x).tableOwn = s.tableOwn := rfl
@[simp] theorem State.setCtl_peers (s : State) (x : Controller) : (s.setCtl x).peers = s.peers := rfl
@[simp] theorem State.setCtl_link (s : State) (x : Controller) : (s.setCtl x).link = s.link := rfl
@[simp] theorem State.setCtl_ctl (s : State) (x : Controller) : (s.setCtl x).ctl = x := rfl
@[simp] theorem State.setCtl_capture (s : State) (x : Controller) : (s.setCtl x).capture = s.capture := rfl
@[simp] theorem State.setCtl_conv (s : State) (x : Controller) : (s.setCtl x).conv = s.conv := rfl
@[simp] theorem State.setCtl_out (s : State) (x : Controller) : (s.setCtl x).out = s.out := rfl
@[simp] theorem State.setCtl_pending (s : State) (x : Controller) : (s.setCtl x).pending = s.pending := rfl

/-! ### `setCapture` -/

@[simp] theorem State.setCapture_now (s : State) (x : Capture) : (s.setCapture x).now = s.now := rfl
@[simp] theorem State.setCapture_pins (s : State) (x : Capture) : (s.setCapture x).pins = s.pins := rfl
@[simp] theorem State.setCapture_loader (s : State) (x : Capture) : (s.setCapture x).loader = s.loader := rfl
@[simp] theorem State.setCapture_drive (s : State) (x : Capture) : (s.setCapture x).drive = s.drive := rfl
@[simp] theorem State.setCapture_brush0 (s : State) (x : Capture) : (s.setCapture x).brush0 = s.brush0 := rfl
@[simp] theorem State.setCapture_brush1 (s : State) (x : Capture) : (s.setCapture x).brush1 = s.brush1 := rfl
@[simp] theorem State.setCapture_ration (s : State) (x : Capture) : (s.setCapture x).ration = s.ration := rfl
@[simp] theorem State.setCapture_spray (s : State) (x : Capture) : (s.setCapture x).spray = s.spray := rfl
@[simp] theorem State.setCapture_tableOwn (s : State) (x : Capture) : (s.setCapture x).tableOwn = s.tableOwn := rfl
@[simp] theorem State.setCapture_peers (s : State) (x : Capture) : (s.setCapture x).peers = s.peers := rfl
@[simp] theorem State.setCapture_link (s : State) (x : Capture) : (s.setCapture x).link = s.link := rfl
@[simp] theorem State.setCapture_ctl (s : State) (x : Capture) : (s.setCapture x).ctl = s.ctl := rfl
@[simp] theorem State.setCapture_capture (s : State) (x : Capture) : (s.setCapture x).capture = x := rfl
@[simp] theorem State.setCapture_conv (s : State) (x : Capture) : (s.setCapture x).conv = s.conv := rfl
@[simp] theorem State.setCapture_out (s : State) (x : Capture) : (s.setCapture x).out = s.out := rfl
@[simp] theorem State.setCapture_pending (s : State) (x : Capture) : (s.setCapture x).pending = s.pending := rfl

/-! ### `setConv` -/

@[simp] theorem State.setConv_now (s : State) (x : Converter) : (s.setConv x).now = s.now := rfl
@[simp] theorem State.setConv_pins (s : State) (x : Converter) : (s.setConv x).pins = s.pins := rfl
@[simp] theorem State.setConv_loader (s : State) (x : Converter) : (s.setConv x).loader = s.loader := rfl
@[simp] theorem State.setConv_drive (s : State) (x : Converter) : (s.setConv x).drive = s.drive := rfl
@[simp] theorem State.setConv_brush0 (s : State) (x : Converter) : (s.setConv x).brush0 = s.brush0 := rfl
@[simp] theorem State.setConv_brush1 (s : State) (x : Converter) : (s.setConv x).brush1 = s.brush1 := rfl
@[simp] theorem State.setConv_ration (s : State) (x : Converter) : (s.setConv x).ration = s.ration := rfl
@[simp] theorem State.setConv_spray (s : State) (x : Converter) : (s.setConv x).spray = s.spray := rfl
@[simp] theorem State.setConv_tableOwn (s : State) (x : Converter) : (s.setConv x).tableOwn = s.tableOwn := rfl
@[simp] theorem State.setConv_peers (s : State) (x : Converter) : (s.setConv x).peers = s.peers := rfl
@[simp] theorem State.setConv_link (s : State) (x : Converter) : (s.setConv x).link = s.link := rfl
@[simp] theorem State.setConv_ctl (s : State) (x : Converter) : (s.setConv x).ctl = s.ctl := rfl
@[simp] theorem State.setConv_capture (s : State) (x : Converter) : (s.setConv x).capture = s.capture := rfl
@[simp] theorem State.setConv_conv (s : State) (x : Converter) : (s.setConv x).conv = x := rfl
@[simp] theorem State.setConv_out (s : State) (x : Converter) : (s.setConv x).out = s.out := rfl
@[simp] theorem State.setConv_pending (s : State) (x : Converter) : (s.setConv x).pending = s.pending := rfl

/-! ### `setOut` -/

@[simp] theorem State.setOut_now (s : State) (x : Outputs) : (s.setOut x).now = s.now := rfl
@[simp] theorem State.setOut_pins (s : State) (x : Outputs) : (s.setOut x).pins = s.pins := rfl
@[simp] theorem State.setOut_loader (s : State) (x : Outputs) : (s.setOut x).loader = s.loader := rfl
@[simp] theorem State.setOut_drive (s : State) (x : Outputs) : (s.setOut x).drive = s.drive := rfl
@[simp] theorem State.setOut_brush0 (s : State) (x : Outputs) : (s.setOut x).brush0 = s.brush0 := rfl
@[simp] theorem State.setOut_brush1 (s : State) (x : Outputs) : (s.setOut x).brush1 = s.brush1 := rfl
@[simp] theorem State.setOut_ration (s : State) (x : Outputs) : (s.setOut x).ration = s.ration := rfl
@[simp] theorem State.setOut_spray (s : State) (x : Outputs) : (s.setOut x).spray = s.spray := rfl
@[simp] theorem State.setOut_tableOwn (s : State) (x : Outputs) : (s.setOut x).tableOwn = s.tableOwn := rfl
@[simp] theorem State.setOut_peers (s : State) (x : Outputs) : (s.setOut x).peers = s.peers := rfl
@[simp] theorem State.setOut_link (s : State) (x : Outputs) : (s.setOut x).link = s.link := rfl
@[simp] theorem State.setOut_ctl (s : State) (x : Outputs) : (s.setOut x).ctl = s.ctl := rfl
@[simp] theorem State.setOut_capture (s : State) (x : Outputs) : (s.setOut x).capture = s.capture := rfl
@[simp] theorem State.setOut_conv (s : State) (x : Outputs) : (s.setOut x).conv = s.conv := rfl
@[simp] theorem State.setOut_out (s : State) (x : Outputs) : (s.setOut x).out = x := rfl
@[simp] theorem State.setOut_pending (s : State) (x : Outputs) : (s.setOut x).pending = s.pending := rfl

/-! ### `arrive` -/

@[simp] theorem State.arrive_now (s : State) (m : Moment) : (s.arrive m).now = s.now + m.dt := rfl
@[simp] theorem State.arrive_pins (s : State) (m : Moment) : (s.arrive m).pins = m.pins := rfl
@[simp] theorem State.arrive_loader (s : State) (m : Moment) : (s.arrive m).loader = s.loader := rfl
@[simp] theorem State.arrive_drive (s : State) (m : Moment) : (s.arrive m).drive = s.drive := rfl
@[simp] theorem State.arrive_brush0 (s : State) (m : Moment) : (s.arrive m).brush0 = s.brush0 := rfl
@[simp] theorem State.arrive_brush1 (s : State) (m : Moment) : (s.arrive m).brush1 = s.brush1 := rfl
@[simp] theorem State.arrive_ration (s : State) (m : Moment) : (s.arrive m).ration = s.ration := rfl
@[simp] theorem State.arrive_spray (s : State) (m : Moment) : (s.arrive m).spray = s.spray := rfl
@[simp] theorem State.arrive_tableOwn (s : State) (m : Moment) : (s.arrive m).tableOwn = s.tableOwn := rfl
@[simp] theorem State.arrive_peers (s : State) (m : Moment) : (s.arrive m).peers = s.peers := rfl
@[simp] theorem State.arrive_link (s : State) (m : Moment) : (s.arrive m).link = s.link := rfl
@[simp] theorem State.arrive_ctl (s : State) (m : Moment) : (s.arrive m).ctl = s.ctl := rfl
@[simp] theorem State.arrive_capture (s : State) (m : Moment) : (s.arrive m).capture = s.capture := rfl
@[simp] theorem State.arrive_conv (s : State) (m : Moment) : (s.arrive m).conv = s.conv := rfl
@[simp] theorem State.arrive_out (s : State) (m : Moment) : (s.arrive m).out = s.out := rfl
@[simp] theorem State.arrive_pending (s : State) (m : Moment) : (s.arrive m).pending = s.pending := rfl

/-! ### `withPending` -/

@[simp] theorem State.withPending_now (s : State) (q : List Instr) : (s.withPending q).now = s.now := rfl
@[simp] theorem State.withPending_pins (s : State) (q : List Instr) : (s.withPending q).pins = s.pins := rfl
@[simp] theorem State.withPending_loader (s : State) (q : List Instr) : (s.withPending q).loader = s.loader := rfl
@[simp] theorem State.withPending_drive (s : State) (q : List Instr) : (s.withPending q).drive = s.drive := rfl
@[simp] theorem State.withPending_brush0 (s : State) (q : List Instr) : (s.withPending q).brush0 = s.brush0 := rfl
@[simp] theorem State.withPending_brush1 (s : State) (q : List Instr) : (s.withPending q).brush1 = s.brush1 := rfl
@[simp] theorem State.withPending_ration (s : State) (q : List Instr) : (s.withPending q).ration = s.ration := rfl
@[simp] theorem State.withPending_spray (s : State) (q : List Instr) : (s.withPending q).spray = s.spray := rfl
@[simp] theorem State.withPending_tableOwn (s : State) (q : List Instr) : (s.withPending q).tableOwn = s.tableOwn := rfl
@[simp] theorem State.withPending_peers (s : State) (q : List Instr) : (s.withPending q).peers = s.peers := rfl
@[simp] theorem State.withPending_link (s : State) (q : List Instr) : (s.withPending q).link = s.link := rfl
@[simp] theorem State.withPending_ctl (s : State) (q : List Instr) : (s.withPending q).ctl = s.ctl := rfl
@[simp] theorem State.withPending_capture (s : State) (q : List Instr) : (s.withPending q).capture = s.capture := rfl
@[simp] theorem State.withPending_conv (s : State) (q : List Instr) : (s.withPending q).conv = s.conv := rfl
@[simp] theorem State.withPending_out (s : State) (q : List Instr) : (s.withPending q).out = s.out := rfl
@[simp] theorem State.withPending_pending (s : State) (q : List Instr) : (s.withPending q).pending = q := rfl

/-! ### `setBrush` -/

@[simp] theorem State.setBrush_now (s : State) (c : Chan) (b : Brush) : (s.setBrush c b).now = s.now := by cases c <;> rfl
@[simp] theorem State.setBrush_pins (s : State) (c : Chan) (b : Brush) : (s.setBrush c b).pins = s.pins := by cases c <;> rfl
@[simp] theorem State.setBrush_loader (s : State) (c : Chan) (b : Brush) : (s.setBrush c b).loader = s.loader := by cases c <;> rfl
@[simp] theorem State.setBrush_drive (s : State) (c : Chan) (b : Brush) : (s.setBrush c b).drive = s.drive := by cases c <;> rfl
@[simp] theorem State.setBrush_ration (s : State) (c : Chan) (b : Brush) : (s.setBrush c b).ration = s.ration := by cases c <;> rfl
@[simp] theorem State.setBrush_spray (s : State) (c : Chan) (b : Brush) : (s.setBrush c b).spray = s.spray := by cases c <;> rfl
@[simp] theorem State.setBrush_tableOwn (s : State) (c : Chan) (b : Brush) : (s.setBrush c b).tableOwn = s.tableOwn := by cases c <;> rfl
@[simp] theorem State.setBrush_peers (s : State) (c : Chan) (b : Brush) : (s.setBrush c b).peers = s.peers := by cases c <;> rfl
@[simp] theorem State.setBrush_link (s : State) (c : Chan) (b : Brush) : (s.setBrush c b).link = s.link := by cases c <;> rfl
@[simp] theorem State.setBrush_ctl (s : State) (c : Chan) (b : Brush) : (s.setBrush c b).ctl = s.ctl := by cases c <;> rfl
@[simp] theorem State.setBrush_capture (s : State) (c : Chan) (b : Brush) : (s.setBrush c b).capture = s.capture := by cases c <;> rfl
@[simp] theorem State.setBrush_conv (s : State) (c : Chan) (b : Brush) : (s.setBrush c b).conv = s.conv := by cases c <;> rfl
@[simp] theorem State.setBrush_pending (s : State) (c : Chan) (b : Brush) : (s.setBrush c b).pending = s.pending := by cases c <;> rfl
@[simp] theorem State.setBrush_brush (s : State) (c : Chan) (b : Brush) : (s.setBrush c b).brush c = b := by cases c <;> rfl
@[simp] theorem State.setBrush_brush_other (s : State) (c : Chan) (b : Brush) :
    (s.setBrush c b).brush (otherChan c) = s.brush (otherChan c) := by cases c <;> rfl
theorem State.setBrush_brush_ne (s : State) {c d : Chan} (b : Brush) (h : d ≠ c) : (s.setBrush c b).brush d = s.brush d := by
  cases c <;> cases d <;> first | rfl | exact absurd rfl h
theorem State.setBrush_out (s : State) (c : Chan) (b : Brush) : (s.setBrush c b).out = s.out.driveArm c b := by cases c <;> rfl

/-! ### `setSpray` -/

@[simp] theorem State.setSpray_now (s : State) (x : Spray) : (s.setSpray x).now = s.now := rfl
@[simp] theorem State.setSpray_pins (s : State) (x : Spray) : (s.setSpray x).pins = s.pins := rfl
@[simp] theorem State.setSpray_loader (s : State) (x : Spray) : (s.setSpray x).loader = s.loader := rfl
@[simp] theorem State.setSpray_drive (s : State) (x : Spray) : (s.setSpray x).drive = s.drive := rfl
@[simp] theorem State.setSpray_brush0 (s : State) (x : Spray) : (s.setSpray x).brush0 = s.brush0 := rfl
@[simp] theorem State.setSpray_brush1 (s : State) (x : Spray) : (s.setSpray x).brush1 = s.brush1 := rfl
@[simp] theorem State.setSpray_ration (s : State) (x : Spray) : (s.setSpray x).ration = s.ration := rfl
@[simp] theorem State.setSpray_spray (s : State) (x : Spray) : (s.setSpray x).spray = x := rfl
@[simp] theorem State.setSpray_tableOwn (s : State) (x : Spray) : (s.setSpray x).tableOwn = s.tableOwn := rfl
@[simp] theorem State.setSpray_peers (s : State) (x : Spray) : (s.setSpray x).peers = s.peers := rfl
@[simp] theorem State.setSpray_link (s : State) (x : Spray) : (s.setSpray x).link = s.link := rfl
@[simp] theorem State.setSpray_ctl (s : State) (x : Spray) : (s.setSpray x).ctl = s.ctl := rfl
@[simp] theorem State.setSpray_capture (s : State) (x : Spray) : (s.setSpray x).capture = s.capture := rfl
@[simp] theorem State.setSpray_conv (s : State) (x : Spray) : (s.setSpray x).conv = s.conv := rfl
@[simp] theorem State.setSpray_pending (s : State) (x : Spray) : (s.setSpray x).pending = s.pending := rfl

/-! ### `writeDriveCoils` -/

@[simp] theorem State.writeDriveCoils_now (s : State) (f r : Nat) : (s.writeDriveCoils f r).now = s.now := rfl
@[simp] theorem State.writeDriveCoils_pins (s : State) (f r : Nat) : (s.writeDriveCoils f r).pins = s.pins := rfl
@[simp] theorem State.writeDriveCoils_loader (s : State) (f r : Nat) : (s.writeDriveCoils f r).loader = s.loader := rfl
@[simp] theorem State.writeDriveCoils_drive (s : State) (f r : Nat) : (s.writeDriveCoils f r).drive = s.drive := rfl
@[simp] theorem State.writeDriveCoils_brush0 (s : State) (f r : Nat) : (s.writeDriveCoils f r).brush0 = s.brush0 := rfl
@[simp] theorem State.writeDriveCoils_brush1 (s : State) (f r : Nat) : (s.writeDriveCoils f r).brush1 = s.brush1 := rfl
@[simp] theorem State.writeDriveCoils_ration (s : State) (f r : Nat) : (s.writeDriveCoils f r).ration = s.ration := rfl
@[simp] theorem State.writeDriveCoils_spray (s : State) (f r : Nat) : (s.writeDriveCoils f r).spray = s.spray := rfl
@[simp] theorem State.writeDriveCoils_tableOwn (s : State) (f r : Nat) : (s.writeDriveCoils f r).tableOwn = s.tableOwn := rfl
@[simp] theorem State.writeDriveCoils_peers (s : State) (f r : Nat) : (s.writeDriveCoils f r).peers = s.peers := rfl
@[simp] theorem State.writeDriveCoils_link (s : State) (f r : Nat) : (s.writeDriveCoils f r).link = s.link := rfl
@[simp] theorem State.writeDriveCoils_ctl (s : State) (f r : Nat) : (s.writeDriveCoils f r).ctl = s.ctl := rfl
@[simp] theorem State.writeDriveCoils_capture (s : State) (f r : Nat) : (s.writeDriveCoils f r).capture = s.capture := rfl
@[simp] theorem State.writeDriveCoils_conv (s : State) (f r : Nat) : (s.writeDriveCoils f r).conv = s.conv := rfl
@[simp] theorem State.writeDriveCoils_pending (s : State) (f r : Nat) : (s.writeDriveCoils f r).pending = s.pending := rfl

/-! ### `setPark` -/

@[simp] theorem State.setPark_now (s : State) (b : Bool) : (s.setPark b).now = s.now := rfl
@[simp] theorem State.setPark_pins (s : State) (b : Bool) : (s.setPark b).pins = s.pins := rfl
@[simp] theorem State.setPark_loader (s : State) (b : Bool) : (s.setPark b).loader = s.loader := rfl
@[simp] theorem State.setPark_drive (s : State) (b : Bool) : (s.setPark b).drive = s.drive := rfl
@[simp] theorem State.setPark_brush0 (s : State) (b : Bool) : (s.setPark b).brush0 = s.brush0 := rfl
@[simp] theorem State.setPark_brush1 (s : State) (b : Bool) : (s.setPark b).brush1 = s.brush1 := rfl
@[simp] theorem State.setPark_ration (s : State) (b : Bool) : (s.setPark b).ration = s.ration := rfl
@[simp] theorem State.setPark_spray (s : State) (b : Bool) : (s.setPark b).spray = s.spray := rfl
@[simp] theorem State.setPark_tableOwn (s : State) (b : Bool) : (s.setPark b).tableOwn = s.tableOwn := rfl
@[simp] theorem State.setPark_peers (s : State) (b : Bool) : (s.setPark b).peers = s.peers := rfl
@[simp] theorem State.setPark_link (s : State) (b : Bool) : (s.setPark b).link = s.link := rfl
@[simp] theorem State.setPark_ctl (s : State) (b : Bool) : (s.setPark b).ctl = s.ctl := rfl
@[simp] theorem State.setPark_capture (s : State) (b : Bool) : (s.setPark b).capture = s.capture := rfl
@[simp] theorem State.setPark_conv (s : State) (b : Bool) : (s.setPark b).conv = s.conv := rfl
@[simp] theorem State.setPark_pending (s : State) (b : Bool) : (s.setPark b).pending = s.pending := rfl

/-! ### `syncBoost` -/

@[simp] theorem State.syncBoost_now (s : State) : (s.syncBoost).now = s.now := rfl
@[simp] theorem State.syncBoost_pins (s : State) : (s.syncBoost).pins = s.pins := rfl
@[simp] theorem State.syncBoost_loader (s : State) : (s.syncBoost).loader = s.loader := rfl
@[simp] theorem State.syncBoost_drive (s : State) : (s.syncBoost).drive = s.drive := rfl
@[simp] theorem State.syncBoost_brush0 (s : State) : (s.syncBoost).brush0 = s.brush0 := rfl
@[simp] theorem State.syncBoost_brush1 (s : State) : (s.syncBoost).brush1 = s.brush1 := rfl
@[simp] theorem State.syncBoost_ration (s : State) : (s.syncBoost).ration = s.ration := rfl
@[simp] theorem State.syncBoost_spray (s : State) : (s.syncBoost).spray = s.spray := rfl
@[simp] theorem State.syncBoost_tableOwn (s : State) : (s.syncBoost).tableOwn = s.tableOwn := rfl
@[simp] theorem State.syncBoost_peers (s : State) : (s.syncBoost).peers = s.peers := rfl
@[simp] theorem State.syncBoost_link (s : State) : (s.syncBoost).link = s.link := rfl
@[simp] theorem State.syncBoost_ctl (s : State) : (s.syncBoost).ctl = s.ctl := rfl
@[simp] theorem State.syncBoost_capture (s : State) : (s.syncBoost).capture = s.capture := rfl
@[simp] theorem State.syncBoost_conv (s : State) : (s.syncBoost).conv = s.conv := rfl
@[simp] theorem State.syncBoost_pending (s : State) : (s.syncBoost).pending = s.pending := rfl

/-! ### `driveOff` -/

@[simp] theorem State.driveOff_now (s : State) : (s.driveOff).now = s.now := rfl
@[simp] theorem State.driveOff_pins (s : State) : (s.driveOff).pins = s.pins := rfl
@[simp] theorem State.driveOff_loader (s : State) : (s.driveOff).loader = s.loader := rfl
@[simp] theorem State.driveOff_drive (s : State) : (s.driveOff).drive = s.drive := rfl
@[simp] theorem State.driveOff_brush0 (s : State) : (s.driveOff).brush0 = s.brush0 := rfl
@[simp] theorem State.driveOff_brush1 (s : State) : (s.driveOff).brush1 = s.brush1 := rfl
@[simp] theorem State.driveOff_ration (s : State) : (s.driveOff).ration = s.ration := rfl
@[simp] theorem State.driveOff_spray (s : State) : (s.driveOff).spray = s.spray := rfl
@[simp] theorem State.driveOff_tableOwn (s : State) : (s.driveOff).tableOwn = s.tableOwn := rfl
@[simp] theorem State.driveOff_peers (s : State) : (s.driveOff).peers = s.peers := rfl
@[simp] theorem State.driveOff_link (s : State) : (s.driveOff).link = s.link := rfl
@[simp] theorem State.driveOff_ctl (s : State) : (s.driveOff).ctl = s.ctl := rfl
@[simp] theorem State.driveOff_capture (s : State) : (s.driveOff).capture = s.capture := rfl
@[simp] theorem State.driveOff_conv (s : State) : (s.driveOff).conv = s.conv := rfl
@[simp] theorem State.driveOff_pending (s : State) : (s.driveOff).pending = s.pending := rfl

/-! ### `updatePeer` -/

@[simp] theorem State.updatePeer_now (s : State) (n : Nat) (f : Peer → Peer) : (s.updatePeer n f).now = s.now := rfl
@[simp] theorem State.updatePeer_pins (s : State) (n : Nat) (f : Peer → Peer) : (s.updatePeer n f).pins = s.pins := rfl
@[simp] theorem State.updatePeer_loader (s : State) (n : Nat) (f : Peer → Peer) : (s.updatePeer n f).loader = s.loader := rfl
@[simp] theorem State.updatePeer_drive (s : State) (n : Nat) (f : Peer → Peer) : (s.updatePeer n f).drive = s.drive := rfl
@[simp] theorem State.updatePeer_brush0 (s : State) (n : Nat) (f : Peer → Peer) : (s.updatePeer n f).brush0 = s.brush0 := rfl
@[simp] theorem State.updatePeer_brush1 (s : State) (n : Nat) (f : Peer → Peer) : (s.updatePeer n f).brush1 = s.brush1 := rfl
@[simp] theorem State.updatePeer_ration (s : State) (n : Nat) (f : Peer → Peer) : (s.updatePeer n f).ration = s.ration := rfl
@[simp] theorem State.updatePeer_spray (s : State) (n : Nat) (f : Peer → Peer) : (s.updatePeer n f).spray = s.spray := rfl
@[simp] theorem State.updatePeer_tableOwn (s : State) (n : Nat) (f : Peer → Peer) : (s.updatePeer n f).tableOwn = s.tableOwn := rfl
@[simp] theorem State.updatePeer_link (s : State) (n : Nat) (f : Peer → Peer) : (s.updatePeer n f).link = s.link := rfl
@[simp] theorem State.updatePeer_ctl (s : State) (n : Nat) (f : Peer → Peer) : (s.updatePeer n f).ctl = s.ctl := rfl
@[simp] theorem State.updatePeer_capture (s : State) (n : Nat) (f : Peer → Peer) : (s.updatePeer n f).capture = s.capture := rfl
@[simp] theorem State.updatePeer_conv (s : State) (n : Nat) (f : Peer → Peer) : (s.updatePeer n f).conv = s.conv := rfl
@[simp] theorem State.updatePeer_out (s : State) (n : Nat) (f : Peer → Peer) : (s.updatePeer n f).out = s.out := rfl
@[simp] theorem State.updatePeer_pending (s : State) (n : Nat) (f : Peer → Peer) : (s.updatePeer n f).pending = s.pending := rfl

/-! ### `settle`, `buildFrame` and `finish` -/

@[simp] theorem State.settle_now (s : State) : s.settle.now = s.now := rfl
@[simp] theorem State.settle_pins (s : State) : s.settle.pins = s.pins := rfl
@[simp] theorem State.settle_loader (s : State) : s.settle.loader = s.loader := rfl
@[simp] theorem State.settle_drive (s : State) : s.settle.drive = s.drive := rfl
@[simp] theorem State.settle_brush0 (s : State) : s.settle.brush0 = s.brush0 := rfl
@[simp] theorem State.settle_brush1 (s : State) : s.settle.brush1 = s.brush1 := rfl
@[simp] theorem State.settle_ration (s : State) : s.settle.ration = s.ration := rfl
@[simp] theorem State.settle_spray (s : State) : s.settle.spray = s.spray := rfl
@[simp] theorem State.settle_tableOwn (s : State) : s.settle.tableOwn = s.tableOwn := rfl
@[simp] theorem State.settle_peers (s : State) : s.settle.peers = s.peers := rfl
@[simp] theorem State.settle_link (s : State) : s.settle.link = s.link := rfl
@[simp] theorem State.settle_capture (s : State) : s.settle.capture = s.capture := rfl
@[simp] theorem State.settle_conv (s : State) : s.settle.conv = s.conv := rfl
@[simp] theorem State.settle_pending (s : State) : s.settle.pending = s.pending := rfl
@[simp] theorem State.buildFrame_now (s : State) : s.buildFrame.now = s.now := rfl
@[simp] theorem State.buildFrame_pins (s : State) : s.buildFrame.pins = s.pins := rfl
@[simp] theorem State.buildFrame_loader (s : State) : s.buildFrame.loader = s.loader := rfl
@[simp] theorem State.buildFrame_drive (s : State) : s.buildFrame.drive = s.drive := rfl
@[simp] theorem State.buildFrame_brush0 (s : State) : s.buildFrame.brush0 = s.brush0 := rfl
@[simp] theorem State.buildFrame_brush1 (s : State) : s.buildFrame.brush1 = s.brush1 := rfl
@[simp] theorem State.buildFrame_ration (s : State) : s.buildFrame.ration = s.ration := rfl
@[simp] theorem State.buildFrame_spray (s : State) : s.buildFrame.spray = s.spray := rfl
@[simp] theorem State.buildFrame_tableOwn (s : State) : s.buildFrame.tableOwn = s.tableOwn := rfl
@[simp] theorem State.buildFrame_peers (s : State) : s.buildFrame.peers = s.peers := rfl
@[simp] theorem State.buildFrame_ctl (s : State) : s.buildFrame.ctl = s.ctl := rfl
@[simp] theorem State.buildFrame_capture (s : State) : s.buildFrame.capture = s.capture := rfl
@[simp] theorem State.buildFrame_conv (s : State) : s.buildFrame.conv = s.conv := rfl
@[simp] theorem State.buildFrame_out (s : State) : s.buildFrame.out = s.out := rfl
@[simp] theorem State.buildFrame_pending (s : State) : s.buildFrame.pending = s.pending := rfl
@[simp] theorem State.finish_now (b : LinkState) (s : State) : (s.finish b).now = s.now := by
  unfold State.finish; dsimp only; split <;> rfl
@[simp] theorem State.finish_pins (b : LinkState) (s : State) : (s.finish b).pins = s.pins := by
  unfold State.finish; dsimp only; split <;> rfl
@[simp] theorem State.finish_loader (b : LinkState) (s : State) : (s.finish b).loader = s.loader := by
  unfold State.finish; dsimp only; split <;> rfl
@[simp] theorem State.finish_drive (b : LinkState) (s : State) : (s.finish b).drive = s.drive := by
  unfold State.finish; dsimp only; split <;> rfl
@[simp] theorem State.finish_brush0 (b : LinkState) (s : State) : (s.finish b).brush0 = s.brush0 := by
  unfold State.finish; dsimp only; split <;> rfl
@[simp] theorem State.finish_brush1 (b : LinkState) (s : State) : (s.finish b).brush1 = s.brush1 := by
  unfold State.finish; dsimp only; split <;> rfl
@[simp] theorem State.finish_ration (b : LinkState) (s : State) : (s.finish b).ration = s.ration := by
  unfold State.finish; dsimp only; split <;> rfl
@[simp] theorem State.finish_spray (b : LinkState) (s : State) : (s.finish b).spray = s.spray := by
  unfold State.finish; dsimp only; split <;> rfl
@[simp] theorem State.finish_tableOwn (b : LinkState) (s : State) : (s.finish b).tableOwn = s.tableOwn := by
  unfold State.finish; dsimp only; split <;> rfl
@[simp] theorem State.finish_peers (b : LinkState) (s : State) : (s.finish b).peers = s.peers := by
  unfold State.finish; dsimp only; split <;> rfl
@[simp] theorem State.finish_capture (b : LinkState) (s : State) : (s.finish b).capture = s.capture := by
  unfold State.finish; dsimp only; split <;> rfl
@[simp] theorem State.finish_conv (b : LinkState) (s : State) : (s.finish b).conv = s.conv := by
  unfold State.finish; dsimp only; split <;> rfl
@[simp] theorem State.finish_pending (b : LinkState) (s : State) : (s.finish b).pending = s.pending := by
  unfold State.finish; dsimp only; split <;> rfl
@[simp] theorem State.finish_ctl (b : LinkState) (s : State) : (s.finish b).ctl = s.settle.ctl := by
  unfold State.finish; dsimp only; split <;> rfl
@[simp] theorem State.finish_out (b : LinkState) (s : State) : (s.finish b).out = s.settle.out := by
  unfold State.finish; dsimp only; split <;> rfl

end Sys2Proof.Machine
end

