-- ==== Sys2Proof/Laws/Bits.lean ====
section
/-! SUPPORT. The bits of a frame as they are sent: how many there are (06, section 6.1). -/

namespace Sys2Proof.Machine

@[simp] theorem bitsOf_length (w n : Nat) : (bitsOf w n).length = w := by
  induction w with
  | zero => rfl
  | succ w ih => simp [bitsOf, ih]

@[simp] theorem coveredBits_length (f : BusFrame) : (coveredBits f).length = 14 + 8 * f.payload.length := by
  simp [coveredBits, List.length_flatMap]
  omega

@[simp] theorem sentBits_length (f : BusFrame) : (sentBits f).length = 38 + 8 * f.payload.length := by
  simp [sentBits]
  omega

/-- An own frame is 38 bits and 8 for each byte of its payload. -/
theorem OwnFrame.bits_eq (f : OwnFrame) : f.bits = 38 + 8 * f.snap.encode.length := by
  simp [OwnFrame.bits, StateFrame.onBus]

end Sys2Proof.Machine
end

