-- ==== Sys2Proof/Laws/Settle.lean ====
section
/-! SUPPORT. What ends every event: `settle` and `finish` leave the figures that follow as their rules make them, and change
nothing else. -/

namespace Sys2Proof.Machine

/-! ### What `settle` keeps of the mode controller and the output stage -/

@[simp] theorem State.settle_ctl_mode (s : State) : s.settle.ctl.mode = s.ctl.mode := rfl
@[simp] theorem State.settle_ctl_standbyReturn (s : State) : s.settle.ctl.standbyReturn = s.ctl.standbyReturn := rfl
@[simp] theorem State.settle_ctl_ignitionTimer (s : State) : s.settle.ctl.ignitionTimer = s.ctl.ignitionTimer := rfl
@[simp] theorem State.settle_ctl_warmupTimer (s : State) : s.settle.ctl.warmupTimer = s.ctl.warmupTimer := rfl
@[simp] theorem State.settle_ctl_restTimer (s : State) : s.settle.ctl.restTimer = s.ctl.restTimer := rfl
@[simp] theorem State.settle_ctl_queue (s : State) : s.settle.ctl.queue = s.ctl.queue := rfl
@[simp] theorem State.settle_ctl_overrun (s : State) : s.settle.ctl.overrun = s.ctl.overrun := rfl
@[simp] theorem State.settle_ctl_discard (s : State) : s.settle.ctl.discard = s.ctl.discard := rfl
@[simp] theorem State.settle_ctl_requested (s : State) : s.settle.ctl.requested = s.ctl.requested := rfl
@[simp] theorem State.settle_ctl_limit (s : State) : s.settle.ctl.limit = s.ctl.limit := rfl
@[simp] theorem State.settle_ctl_select0 (s : State) : s.settle.ctl.select0 = s.ctl.select0 := rfl
@[simp] theorem State.settle_ctl_select1 (s : State) : s.settle.ctl.select1 = s.ctl.select1 := rfl
@[simp] theorem State.settle_ctl_sprayOn (s : State) : s.settle.ctl.sprayOn = s.ctl.sprayOn := rfl
@[simp] theorem State.settle_ctl_sprayRate (s : State) : s.settle.ctl.sprayRate = s.ctl.sprayRate := rfl
@[simp] theorem State.settle_ctl_faults (s : State) : s.settle.ctl.faults = s.ctl.faults := rfl
@[simp] theorem State.settle_ctl_linkCount (s : State) : s.settle.ctl.linkCount = s.ctl.linkCount := rfl
@[simp] theorem State.settle_ctl_brush0Count (s : State) : s.settle.ctl.brush0Count = s.ctl.brush0Count := rfl
@[simp] theorem State.settle_ctl_brush1Count (s : State) : s.settle.ctl.brush1Count = s.ctl.brush1Count := rfl
@[simp] theorem State.settle_ctl_sprayCount (s : State) : s.settle.ctl.sprayCount = s.ctl.sprayCount := rfl
@[simp] theorem State.settle_ctl_recovery (s : State) (k : Counted) :
    s.settle.ctl.recovery k = s.ctl.recovery k := by cases k <;> rfl
@[simp] theorem State.settle_ctl_record (s : State) (src : Source) : s.settle.ctl.record src = s.ctl.record src := rfl
@[simp] theorem State.settle_ctl_recordState (s : State) (src : Source) :
    s.settle.ctl.recordState src = s.ctl.recordState src := rfl
@[simp] theorem State.settle_ctl_contrib (s : State) : s.settle.ctl.contrib = s.contributions := rfl
@[simp] theorem State.settle_ctl_silentCount (s : State) : s.settle.ctl.silentCount = s.silentExpected := rfl

@[simp] theorem State.settle_out_lift0 (s : State) : s.settle.out.lift0 = s.out.lift0 := rfl
@[simp] theorem State.settle_out_float0 (s : State) : s.settle.out.float0 = s.out.float0 := rfl
@[simp] theorem State.settle_out_lift1 (s : State) : s.settle.out.lift1 = s.out.lift1 := rfl
@[simp] theorem State.settle_out_float1 (s : State) : s.settle.out.float1 = s.out.float1 := rfl
@[simp] theorem State.settle_out_nozzle1 (s : State) : s.settle.out.nozzle1 = s.out.nozzle1 := rfl
@[simp] theorem State.settle_out_nozzle2 (s : State) : s.settle.out.nozzle2 = s.out.nozzle2 := rfl
@[simp] theorem State.settle_out_nozzle3 (s : State) : s.settle.out.nozzle3 = s.out.nozzle3 := rfl
@[simp] theorem State.settle_out_nozzle4 (s : State) : s.settle.out.nozzle4 = s.out.nozzle4 := rfl
@[simp] theorem State.settle_out_parkRelease (s : State) : s.settle.out.parkRelease = s.out.parkRelease := rfl
@[simp] theorem State.settle_out_boost (s : State) : s.settle.out.boost = s.out.boost := rfl
@[simp] theorem State.settle_out_spare (s : State) : s.settle.out.spare = s.out.spare := rfl
@[simp] theorem State.settle_out_supply (s : State) : s.settle.out.supply = s.out.supply := rfl
@[simp] theorem State.settle_out_startTimer (s : State) : s.settle.out.startTimer = s.out.startTimer := rfl
@[simp] theorem State.settle_out_releaseTimer (s : State) : s.settle.out.releaseTimer = s.out.releaseTimer := rfl
@[simp] theorem State.settle_out_late (s : State) : s.settle.out.late = s.out.late := rfl
@[simp] theorem State.settle_out_forcing (s : State) : s.settle.out.forcing = s.forcingOn := rfl
@[simp] theorem State.settle_out_coil (s : State) (c : Coil) :
    s.settle.out.coil c = (s.out.coil c).forced s.forcingOn := by cases c <;> rfl
@[simp] theorem CoilOut.forced_shadow (x : CoilOut) (f : Bool) : (x.forced f).shadow = x.shadow := by cases f <;> rfl
@[simp] theorem CoilOut.forced_duty (x : CoilOut) (f : Bool) : (x.forced f).duty = x.duty := by cases f <;> rfl
@[simp] theorem CoilOut.forced_shortOff (x : CoilOut) (f : Bool) : (x.forced f).shortOff = x.shortOff := by cases f <;> rfl
@[simp] theorem CoilOut.forced_openArmed (x : CoilOut) (f : Bool) : (x.forced f).openArmed = x.openArmed := by cases f <;> rfl
@[simp] theorem CoilOut.forced_start (x : CoilOut) (f : Bool) : (x.forced f).start = x.start := by cases f <;> rfl

/-- The standing contributions do not read the contributions they replace. -/
theorem State.contributions_settle (s : State) : s.settle.contributions = s.contributions := rfl

/-- After `settle` every figure that follows is as its rule makes it. -/
theorem State.settle_settled (s : State) : s.settle.Settled := ⟨rfl, rfl, rfl, rfl, rfl⟩

/-- Building a frame leaves the figures that follow as they are. -/
theorem State.Settled.buildFrame {s : State} (h : s.Settled) : s.buildFrame.Settled :=
  ⟨h.contrib, h.cap, h.silent, h.lamp, h.forcing⟩

/-- After every event the figures that follow are as their rules make them. -/
theorem State.finish_settled (b : LinkState) (s : State) : (s.finish b).Settled := by
  unfold State.finish
  dsimp only
  split
  · exact s.settle_settled.buildFrame
  · exact s.settle_settled

/-- Time and the switched inputs do not bear on the figures that follow. -/
theorem State.Settled.arrive {s : State} (h : s.Settled) (m : Moment) : (s.arrive m).Settled :=
  ⟨h.contrib, h.cap, h.silent, h.lamp, h.forcing⟩

/-- A state whose figures already follow, and whose forced outputs already stand off, is left as it is by `settle`. -/
theorem State.Settled.settle_eq {s : State} (h : s.Settled) (ho : s.out.Wf) : s.settle = s := by
  obtain ⟨h1, h2, h3, h4, h5⟩ := h
  have hf : ∀ c, (s.out.coil c).forced s.forcingOn = s.out.coil c := by
    intro c
    have := ho.forced
    rw [h5] at this
    unfold CoilOut.forced
    split
    · obtain ⟨ha, hb⟩ := this ‹_› c
      cases hx : s.out.coil c
      simp_all
    · rfl
  have hc : s.settle.ctl = s.ctl := by
    have e : s.settle.ctl =
        { s.ctl with
          contrib := s.contributions, ownCap := s.syncContributions.composeCap, silentCount := s.silentExpected } := rfl
    rw [e]
    have : s.syncContributions = s := by
      unfold State.syncContributions State.setCtl
      rw [← h1]
    rw [this, ← h1, ← h2, ← h3]
  have hd : s.settle.out = s.out := by
    have e : s.settle.out = { s.out.force s.forcingOn with faultLamp := s.lampLevel } := rfl
    rw [e, ← h4, ← h5]
    have a := hf .driveF; have b := hf .driveR; have c := hf .brush0; have d := hf .brush1; have f := hf .pump
    rw [← h5] at a b c d f
    unfold Outputs.force
    simp only [Outputs.coil] at a b c d f
    rw [a, b, c, d, f]
  have e : s.settle = { s with ctl := s.settle.ctl, out := s.settle.out } := rfl
  rw [e, hc, hd]

/-- With nothing takeable at the head, nothing is taken. -/
theorem State.takeDue_of_not_takeable {s : State} (h : s.takeable = false) : s.takeDue = s := by
  unfold State.takeDue
  cases s.ctl.queue.length <;> simp [State.takes, h]

/-- An event whose condition does not hold takes what is takeable and lets time pass, and nothing else. -/
theorem State.event_not_due {s : State} {m : Moment} {due : State → Bool} {eff : State → State}
    (h : due (s.takeDue.arrive m) = false) : s.event m due eff = s.takeDue.arrive m := by simp [State.event, h]

/-- An event whose condition holds takes its effect, and then what follows is set. -/
theorem State.event_due {s : State} {m : Moment} {due : State → Bool} {eff : State → State}
    (h : due (s.takeDue.arrive m) = true) :
    s.event m due eff = (eff (s.takeDue.arrive m)).finish s.takeDue.link.state := by
  simp [State.event, h]

/-- The row of a kind of command, with a head of that kind and at the moment at which it became takeable: the head is taken. -/
theorem State.takeEvent_due {s : State} {m : Moment} {due : State → Bool} (h : due s = true) (h0 : m.dt = 0) :
    s.takeEvent m due = s.takeOne.arrive m := by simp [State.takeEvent, h, h0]

/-- A row that comes later finds all that is takeable taken. -/
theorem State.takeEvent_late {s : State} {m : Moment} {due : State → Bool} (h0 : m.dt ≠ 0) :
    s.takeEvent m due = s.takeDue.arrive m := by simp [State.takeEvent, h0]

/-- The row of a kind of command, with another head: what is takeable is taken, and time passes. -/
theorem State.takeEvent_not_due {s : State} {m : Moment} {due : State → Bool} (h : due s = false) :
    s.takeEvent m due = s.takeDue.arrive m := by simp [State.takeEvent, h]

/-- What a take is: a MODE command, or a command of another kind, taken by its effect, and then what follows is set. -/
theorem State.takeOne_cases {s : State} (h : s.takeable = true) :
    (s.headMode.isSome = true ∧ s.takeOne = s.takeHeadMode.finish s.link.state) ∨
      ∃ k, s.headIs k = true ∧ s.takeOne = s.takeHead.finish s.link.state := by
  unfold State.takeOne
  by_cases hm : s.headMode.isSome = true
  · exact .inl ⟨hm, by rw [if_pos hm]⟩
  · refine .inr ?_
    rw [if_neg hm]
    obtain ⟨k, hk⟩ : ∃ k, s.headOther = some k := by
      simpa [State.takeable, hm, Option.isSome_iff_exists] using h
    unfold State.headIs
    rw [hk]
    cases k with
    | mode c => unfold State.headOther at hk; split at hk <;> try cases hk
                split at hk <;> simp_all
    | direction c => exact ⟨.direction, rfl, rfl⟩
    | limit c => exact ⟨.limit, rfl, rfl⟩
    | brush c => exact ⟨.brush, rfl, rfl⟩
    | spray c d => exact ⟨.spray, rfl, rfl⟩
    | clear => exact ⟨.clear, rfl, rfl⟩
    | wake => exact ⟨.wake, rfl, rfl⟩

/-- The link after an event: as its effect left it, or, newly ACTIVE, with its frame built and its period running (R111). -/
theorem State.finish_link (b : LinkState) (s : State) :
    (s.finish b).link =
      if s.link.state = .active ∧ b ≠ .active then
        { s.link with
          pending := some { snap := s.settle.snapshot, discard := s.ctl.discard }, periodTimer := some s.now }
      else s.link := by
  unfold State.finish
  dsimp only
  rw [State.settle_link]
  split <;> rfl

/-- Whatever the event, the link state is what its effect left. -/
@[simp] theorem State.finish_link_state (b : LinkState) (s : State) : (s.finish b).link.state = s.link.state := by
  rw [State.finish_link]; split <;> rfl

/-- The link after an event that began with the link in the state its effect leaves: as its effect left it. -/
theorem State.finish_link_of_state {b : LinkState} {s : State} (h : s.link.state = b) : (s.finish b).link = s.link := by
  rw [State.finish_link, if_neg]
  rintro ⟨h1, h2⟩
  exact h2 (h ▸ h1)

/-- What `settle` leaves of the mode controller and of the output stage. -/
@[simp] theorem State.settle_ctl_bare (s : State) : s.settle.ctl.bare = s.ctl.bare := rfl
@[simp] theorem CoilOut.forced_bare (x : CoilOut) (f : Bool) : (x.forced f).bare = x.bare := by cases f <;> rfl
@[simp] theorem State.settle_out_bare (s : State) : s.settle.out.bare = s.out.bare := by
  have e : s.settle.out = { s.out.force s.forcingOn with faultLamp := s.lampLevel } := rfl
  rw [e]
  simp [Outputs.bare, Outputs.force]
@[simp] theorem State.settle_out_butDrive (s : State) : s.settle.out.butDrive = s.out.butDrive := by
  unfold Outputs.butDrive; rw [State.settle_out_bare]
@[simp] theorem State.settle_out_butArms (s : State) : s.settle.out.butArms = s.out.butArms := by
  unfold Outputs.butArms; rw [State.settle_out_bare]
@[simp] theorem State.settle_out_butSpray (s : State) : s.settle.out.butSpray = s.out.butSpray := by
  unfold Outputs.butSpray; rw [State.settle_out_bare]

end Sys2Proof.Machine
end

