-- ==== Sys2Proof/Laws/Exec.lean ====
section
/-! SUPPORT. What any command can do: every command answers a next state, and a property that time, the end of an event and
every effect keep is kept by every command and every step. -/

namespace Sys2Proof.Machine

/-- No command stops the machine. -/
theorem exec_next (i : Instr) (s : State) : ∃ t, exec i s = .next t := by cases i <;> exact ⟨_, rfl⟩

/-- The effects of all commands but RESET_ASSERT and CLEAR stand in a relation to the state they are taken in, each where its
condition holds. -/
structure Effects (R : State → State → Prop) : Prop where
  release : ∀ s x, s.loader.resetHeld = true → R s (s.release x)
  status : ∀ s x, s.awaitsStatus = true → R s (s.takeStatus x)
  failed : ∀ s, s.loader.state = .reading → R s (s.endFailed .noMemory)
  marker : ∀ s b0 b1 l, s.awaitsMarker = true → R s (s.takeMarker b0 b1 l)
  block : ∀ s f hi lo, s.awaitsBlock f = true → R s (s.takeBlock f hi lo)
  drive : ∀ s, s.driveStepRuns = true → R s s.driveStep
  brush : ∀ s c, s.brushStepRuns = true → R s (s.brushStep c)
  spray : ∀ s, s.sprayStepRuns = true → R s s.sprayStep
  state : ∀ s f, s.link.receivingFrame = true → R s (s.receiveState f)
  fresh : ∀ s n, s.freshDue n = true → R s (s.updatePeer n Peer.stale)
  stale : ∀ s n, s.staleDue n = true → R s (s.updatePeer n Peer.expired)
  command : ∀ s f, s.link.receivingFrame = true → R s (s.receiveCommand f)
  discard : ∀ s f, s.link.receivingFrame = true → R s (s.discardFrame f)
  period : ∀ s, s.periodDue = true → R s s.buildFrame
  start : ∀ s, s.link.startDue = true → R s (s.setLink s.link.start)
  arbitration : ∀ s, s.link.inFlight.isSome = true → R s (s.setLink s.link.loseArbitration)
  bitError : ∀ s, s.link.inFlight.isSome = true → R s s.abandon
  complete : ∀ s, s.link.inFlight.isSome = true → R s s.sentToCompletion
  listen : ∀ s, s.link.state = .listenOnly → R s s.listenEnd
  quiet : ∀ s, s.link.state = .silenced → R s s.quietEnd
  rouse : ∀ s, s.link.state = .dozing → s.link.inFlight = none → R s (s.setLink { s.link.hunt 0 with state := .waking, wakeTimer := some s.now })
  doze : ∀ s, s.link.state = .waking → R s (s.setLink { s.link.restart with state := .dozing, wakeTimer := none })
  idle : ∀ s, s.link.receiver = .hunting → R s (s.setLink { s.link with receiver := .idle, recessive := 11 })
  follow : ∀ s, s.link.receiver = .idle → R s (s.setLink s.link.follow)
  check : ∀ s, s.checks = true → R s s.modeCheck
  takeMode : ∀ s, s.headMode.isSome = true → R s s.takeHeadMode
  take : ∀ s k, s.headIs k = true → k ≠ .clear → R s s.takeHead
  window : ∀ s k, s.windowDue k = true → R s (s.setCtl (s.ctl.setRecovery k Recovery.zero))
  edge : ∀ s k, s.captures k = true → R s (s.takeEdge k)
  timeout : ∀ s k, s.captures k = true → R s (s.setCapture (s.capture.setInput k (s.capture.input k).expired))
  single : ∀ s x, R s (s.singleOrLate x)
  senseOpen : ∀ s x, s.openDue x = true → R s (s.single x)
  coarse : ∀ s x, s.atKind .coarse = true → R s (s.coarse x)
  fine : ∀ s x, s.atKind .fine = true → R s (s.fine x)
  pwm : ∀ s c, s.pwmDue c = true → R s (s.pwmStart c)

/-- An event, what is takeable taken, lets time pass, or takes its effect and what follows is set. -/
theorem Effects.event {R : State → State → Prop} {s : State} {m : Moment} {due : State → Bool}
    {eff : State → State} (he : ∀ a, due a = true → R a (eff a)) :
    s.event m due eff = s.takeDue.arrive m ∨
      ∃ u, R (s.takeDue.arrive m) u ∧ s.event m due eff = u.finish s.takeDue.link.state := by
  unfold State.event
  dsimp only
  split
  · exact .inr ⟨_, he _ ‹_›, rfl⟩
  · exact .inl rfl

/-- The row of a kind of command takes one command, if no time passes to it, or all that is takeable. -/
theorem State.takeEvent_cases {s : State} {m : Moment} {due : State → Bool} (hd : ∀ a, due a = true → a.takeable = true) :
    (s.takeable = true ∧ m.dt = 0 ∧ s.takeEvent m due = s.takeOne.arrive m) ∨ s.takeEvent m due = s.takeDue.arrive m := by
  unfold State.takeEvent
  split
  next h =>
    simp only [Bool.and_eq_true, beq_iff_eq] at h
    exact .inl ⟨hd _ h.1, h.2, rfl⟩
  next => exact .inr rfl

/-- A head of a kind other than MODE is takeable. -/
theorem State.headIs_takeable {k : CmdName} (s : State) (h : s.headIs k = true) : s.takeable = true := by
  unfold State.headIs at h
  unfold State.takeable
  cases hk : s.headOther <;> simp_all

/-- A MODE command at the head is takeable where its argument is given. -/
theorem State.headMode_takeable (s : State) (h : s.headMode.isSome = true) : s.takeable = true := by
  simp [State.takeable, h]

/-- A timed brush row runs at a brush step. -/
theorem State.brushMeets_runs {s : State} {f c : Chan} {p : BrushCause → Bool} (h : s.brushMeets f c p = true) :
    s.brushStepRuns = true := by
  unfold State.brushMeets at h; simp only [Bool.and_eq_true] at h; exact h.1

/-- A timed spray row runs at a spray step. -/
theorem State.sprayMeets_runs {s : State} {p : SprayCause → Bool} (h : s.sprayMeets p = true) :
    s.sprayStepRuns = true := by
  unfold State.sprayMeets at h; simp only [Bool.and_eq_true] at h; exact h.1

/-- What a command that is no take can do: what is takeable is taken, time passes, and nothing else, or its effect is taken and
what follows is set. -/
theorem Effects.exec {R : State → State → Prop} (h : Effects R) {i : Instr} {s t : State} (hr : isReset i = false)
    (hi : isTakeRow i = false) (he : Machine.exec i s = .next t) :
    t = s.takeDue.arrive (moment i) ∨
      ∃ u, R (s.takeDue.arrive (moment i)) u ∧ t = u.finish s.takeDue.link.state := by
  cases i <;> cases he
  case resetAssert => cases hr
  case resetRelease => exact Effects.event (fun a ha => h.release a _ ha)
  case statusRequestAnswer => exact Effects.event (fun a ha => h.status a _ ha)
  case statusWaitTimeout =>
    exact Effects.event (fun a ha => h.failed a (by simp only [Bool.and_eq_true, beq_iff_eq] at ha; exact ha.1))
  case markerLengthCheck => exact Effects.event (fun a ha => h.marker a _ _ _ ha)
  case blockReadEnd => exact Effects.event (fun a ha => h.block a _ _ _ ha)
  case driveStep => exact Effects.event (fun a ha => h.drive a ha)
  case pedalOnset =>
    exact Effects.event (fun a ha => h.drive a (by simp only [State.pedalOnsetMet, Bool.and_eq_true] at ha; exact ha.1))
  case pedalRecovery =>
    exact Effects.event (fun a ha => h.drive a (by simp only [State.pedalRecoveryMet, Bool.and_eq_true] at ha; exact ha.1))
  case stopTimingEnd =>
    exact Effects.event (fun a ha => h.drive a (by simp only [State.stopMet, Bool.and_eq_true] at ha; exact ha.1))
  case turnCompletion =>
    exact Effects.event (fun a ha => h.drive a (by simp only [State.turnMet, Bool.and_eq_true] at ha; exact ha.1.1))
  case blindDetection =>
    exact Effects.event (fun a ha => h.drive a (by simp only [State.blindMetAtStep, Bool.and_eq_true] at ha; exact ha.1))
  case brushStep => exact Effects.event (fun a ha => h.brush a _ ha)
  case rationCapOnset =>
    exact Effects.event (fun a ha => h.brush a _ (by simp only [State.capOnsetMet, Bool.and_eq_true] at ha; exact ha.1.1))
  case rationCapRelease =>
    exact Effects.event (fun a ha => h.brush a _ (by simp only [State.capReleaseMet, Bool.and_eq_true] at ha; exact ha.1))
  case sprayStep => exact Effects.event (fun a ha => h.spray a ha)
  case stateFrameReceived =>
    exact Effects.event (fun a ha => h.state a _ (by simp only [Bool.and_eq_true] at ha; exact ha.1))
  case freshExpiry => exact Effects.event (fun a ha => h.fresh a _ ha)
  case staleExpiry => exact Effects.event (fun a ha => h.stale a _ ha)
  case commandFrameReceived =>
    exact Effects.event (fun a ha => h.command a _ (by simp only [Bool.and_eq_true] at ha; exact ha.1))
  case frameDiscard =>
    exact Effects.event (fun a ha => h.discard a _ (by simp only [Bool.and_eq_true] at ha; exact ha.1))
  case periodTimerExpiry => exact Effects.event (fun a ha => h.period a ha)
  case busIdleStart => exact Effects.event (fun a ha => h.start a ha)
  case arbitrationLoss =>
    exact Effects.event (fun a ha => h.arbitration a (by simp only [Bool.and_eq_true] at ha; exact ha.1))
  case bitError =>
    refine Effects.event (fun a ha => h.bitError a ?_)
    simp only [Bool.and_eq_true] at ha
    cases hf : a.link.inFlight
    · rw [hf] at ha; simp at ha
    · rfl
  case sentToCompletion => exact Effects.event (fun a ha => h.complete a ha)
  case listenTimerEnd =>
    exact Effects.event (fun a ha => h.listen a (by simp only [Bool.and_eq_true, beq_iff_eq] at ha; exact ha.1))
  case clashQuietEnd =>
    exact Effects.event (fun a ha => h.quiet a (by simp only [Bool.and_eq_true, beq_iff_eq] at ha; exact ha.1.1))
  case receiverWake =>
    refine Effects.event (fun a ha => ?_)
    simp only [Bool.and_eq_true, beq_iff_eq, Option.isNone_iff_eq_none] at ha
    exact h.rouse a ha.1 ha.2
  case wakeWindowEnd =>
    exact Effects.event (fun a ha => h.doze a (by simp only [Bool.and_eq_true, beq_iff_eq] at ha; exact ha.1))
  case modeCheck => exact Effects.event (fun a ha => h.check a ha)
  case warmupEnd => exact Effects.event (fun a ha => h.check a (by simp only [Bool.and_eq_true] at ha; exact ha.1))
  case restTimerEnd => exact Effects.event (fun a ha => h.check a (by simp only [Bool.and_eq_true] at ha; exact ha.1))
  case ignitionTimerEnd => exact Effects.event (fun a ha => h.check a (by simp only [Bool.and_eq_true] at ha; exact ha.1))
  case windowTimerExpiry => exact Effects.event (fun a ha => h.window a _ ha)
  case risingEdge => exact Effects.event (fun a ha => h.edge a _ ha)
  case zeroRateTimeout =>
    exact Effects.event (fun a ha => h.timeout a _ (by simp only [Bool.and_eq_true] at ha; exact ha.1))
  case singleConversion => exact Effects.event (fun a _ => h.single a _)
  case coarseConversion => exact Effects.event (fun a ha => h.coarse a _ ha)
  case fineConversion => exact Effects.event (fun a ha => h.fine a _ ha)
  case pwmPeriodStart => exact Effects.event (fun a ha => h.pwm a _ ha)
  case coilOpenDetect => exact Effects.event (fun a ha => h.senseOpen a _ ha)
  case supplyStart => exact Effects.event (fun a _ => h.single a _)
  case supplyRelease => exact Effects.event (fun a _ => h.single a _)
  case busIdle =>
    refine Effects.event (fun a ha => h.idle a ?_)
    simp only [Link.idleDue, Bool.and_eq_true, beq_iff_eq] at ha
    exact ha.1.1.2
  case startBitTaken =>
    refine Effects.event (fun a ha => h.follow a ?_)
    simp only [Bool.and_eq_true, beq_iff_eq] at ha
    exact ha.1.2
  case mode | direction | limit | brush | spray | clear | wake => cases hi
  case primeTimeEnd | standstillHoldEnd | tankLowEmpty | refill | dryRun | sprayRecoveryDelayEnd =>
    exact Effects.event (fun a ha => h.spray a (State.sprayMeets_runs ha))
  case contactDetected | descendTimeout | lossOfContact | starvation | spinDownEnd | raiseTimeout | resume | trip | stall
      | overrunOnset | overrunClear | overrunStanding | brushRecoveryDelayEnd =>
    exact Effects.event (fun a ha => h.brush a _ (State.brushMeets_runs ha))

/-- What the row of a kind of command can do: one command is taken and no time passes, or what is takeable is taken and time
passes. -/
theorem exec_take {i : Instr} {s t : State} (hi : isTakeRow i = true) (he : Machine.exec i s = .next t) :
    (s.takeable = true ∧ (moment i).dt = 0 ∧ t = s.takeOne.arrive (moment i)) ∨ t = s.takeDue.arrive (moment i) := by
  cases i <;> cases hi <;> cases he
  case mode => exact State.takeEvent_cases State.headMode_takeable
  all_goals exact State.takeEvent_cases State.headIs_takeable

section Invariant

variable {P : State → Prop} (h : Effects fun a u => P a → P u) (harr : ∀ s m, P s → P (s.arrive m))
  (hfin : ∀ s b, P s → P (s.finish b)) (hc : ∀ s, s.headIs .clear = true → P s → P s.takeHead)
include h hfin hc

/-- A property that every effect keeps is kept by a take. -/
theorem Effects.takeOne {s : State} (ht : s.takeable = true) (hs : P s) : P s.takeOne := by
  obtain ⟨hm, e⟩ | ⟨k, hk, e⟩ := State.takeOne_cases ht <;> rw [e] <;> refine hfin _ _ ?_
  · exact h.takeMode _ hm hs
  · by_cases hkc : k = .clear
    · subst hkc; exact hc _ hk hs
    · exact h.take _ k hk hkc hs

/-- A property that every effect keeps is kept by the takes that are due. -/
theorem Effects.takeDue {s : State} (hs : P s) : P s.takeDue := by
  unfold State.takeDue
  generalize s.ctl.queue.length = n
  induction n generalizing s with
  | zero => exact hs
  | succ n ih =>
    unfold State.takes
    split
    · exact ih (h.takeOne hfin hc ‹_› hs)
    · exact hs

include harr

/-- A property that time, the end of an event and every effect keep is kept by every command. -/
theorem Effects.invariant {i : Instr} {s t : State} (hr : isReset i = true → ∀ s m, P s → P (s.toReset m))
    (he : Machine.exec i s = .next t) (hs : P s) : P t := by
  cases hi : isReset i
  · cases hk : isTakeRow i
    · obtain rfl | ⟨u, hu, rfl⟩ := h.exec hi hk he
      · exact harr _ _ (h.takeDue hfin hc hs)
      · exact hfin _ _ (hu (harr _ _ (h.takeDue hfin hc hs)))
    · obtain ⟨ht, -, rfl⟩ | rfl := exec_take hk he
      · exact harr _ _ (h.takeOne hfin hc ht hs)
      · exact harr _ _ (h.takeDue hfin hc hs)
  · cases i <;> cases hi
    cases he
    exact hr rfl _ _ hs

/-- A property that does not read the queue of commands and that every effect keeps is kept by every step. -/
theorem Effects.step (hq : ∀ s q, P s → P (s.withPending q)) (hr : ∀ s m, P s → P (s.toReset m)) {s t : State}
    (he : Machine.step s = .next t) (hs : P s) : P t := by
  unfold Machine.step at he
  split at he
  · cases he; exact hs
  · exact h.invariant harr hfin hc (fun _ => hr) he (hq _ _ hs)

end Invariant

end Sys2Proof.Machine
end

