-- ==== Sys2Proof/Laws/Frames.lean ====
section
/-! SUPPORT. For every shared operation, the parts of State that it leaves as they are. -/

namespace Sys2Proof.Machine

@[simp] theorem State.postPedal_keeps (s : State) :
    s.postPedal.now = s.now ∧ s.postPedal.pins = s.pins ∧ s.postPedal.loader = s.loader ∧
      s.postPedal.drive = s.drive ∧ s.postPedal.brush0 = s.brush0 ∧ s.postPedal.brush1 = s.brush1 ∧
      s.postPedal.ration = s.ration ∧ s.postPedal.spray = s.spray ∧ s.postPedal.tableOwn = s.tableOwn ∧
      s.postPedal.peers = s.peers ∧ s.postPedal.link = s.link ∧ s.postPedal.capture = s.capture ∧
      s.postPedal.conv = s.conv ∧ s.postPedal.out = s.out ∧ s.postPedal.pending = s.pending := by
  unfold State.postPedal; split <;> simp

@[simp] theorem State.withdrawPedal_keeps (s : State) :
    s.withdrawPedal.now = s.now ∧ s.withdrawPedal.pins = s.pins ∧ s.withdrawPedal.loader = s.loader ∧
      s.withdrawPedal.drive = s.drive ∧ s.withdrawPedal.brush0 = s.brush0 ∧ s.withdrawPedal.brush1 = s.brush1 ∧
      s.withdrawPedal.ration = s.ration ∧ s.withdrawPedal.spray = s.spray ∧ s.withdrawPedal.tableOwn = s.tableOwn ∧
      s.withdrawPedal.peers = s.peers ∧ s.withdrawPedal.link = s.link ∧ s.withdrawPedal.capture = s.capture ∧
      s.withdrawPedal.conv = s.conv ∧ s.withdrawPedal.out = s.out ∧ s.withdrawPedal.pending = s.pending := by
  unfold State.withdrawPedal; split <;> simp

@[simp] theorem State.postDrive_keeps (s : State) (code : FaultCode) :
    (s.postDrive code).now = s.now ∧ (s.postDrive code).pins = s.pins ∧ (s.postDrive code).loader = s.loader ∧
      (s.postDrive code).drive = s.drive ∧ (s.postDrive code).brush0 = s.brush0 ∧
      (s.postDrive code).brush1 = s.brush1 ∧ (s.postDrive code).ration = s.ration ∧
      (s.postDrive code).spray = s.spray ∧ (s.postDrive code).tableOwn = s.tableOwn ∧
      (s.postDrive code).peers = s.peers ∧ (s.postDrive code).link = s.link ∧
      (s.postDrive code).capture = s.capture ∧ (s.postDrive code).conv = s.conv ∧ (s.postDrive code).out = s.out ∧
      (s.postDrive code).pending = s.pending := by
  unfold State.postDrive; simp

@[simp] theorem State.pedalStage_keeps (s : State) :
    s.pedalStage.now = s.now ∧ s.pedalStage.pins = s.pins ∧ s.pedalStage.loader = s.loader ∧
      s.pedalStage.brush0 = s.brush0 ∧ s.pedalStage.brush1 = s.brush1 ∧ s.pedalStage.ration = s.ration ∧
      s.pedalStage.spray = s.spray ∧ s.pedalStage.tableOwn = s.tableOwn ∧ s.pedalStage.peers = s.peers ∧
      s.pedalStage.link = s.link ∧ s.pedalStage.capture = s.capture ∧ s.pedalStage.conv = s.conv ∧
      s.pedalStage.out = s.out ∧ s.pedalStage.pending = s.pending := by
  unfold State.pedalStage; dsimp only; split_ifs <;> simp

@[simp] theorem State.blindStage_keeps (s : State) :
    s.blindStage.now = s.now ∧ s.blindStage.pins = s.pins ∧ s.blindStage.loader = s.loader ∧
      s.blindStage.brush0 = s.brush0 ∧ s.blindStage.brush1 = s.brush1 ∧ s.blindStage.ration = s.ration ∧
      s.blindStage.spray = s.spray ∧ s.blindStage.tableOwn = s.tableOwn ∧ s.blindStage.peers = s.peers ∧
      s.blindStage.link = s.link ∧ s.blindStage.capture = s.capture ∧ s.blindStage.conv = s.conv ∧
      s.blindStage.out = s.out ∧ s.blindStage.pending = s.pending := by
  unfold State.blindStage; split <;> simp

@[simp] theorem State.engage_keeps (s : State) :
    s.engage.now = s.now ∧ s.engage.pins = s.pins ∧ s.engage.loader = s.loader ∧ s.engage.brush0 = s.brush0 ∧
      s.engage.brush1 = s.brush1 ∧ s.engage.ration = s.ration ∧ s.engage.spray = s.spray ∧
      s.engage.tableOwn = s.tableOwn ∧ s.engage.peers = s.peers ∧ s.engage.link = s.link ∧ s.engage.ctl = s.ctl ∧
      s.engage.capture = s.capture ∧ s.engage.conv = s.conv ∧ s.engage.out = s.out ∧
      s.engage.pending = s.pending := by
  unfold State.engage; simp

@[simp] theorem State.moveStage_keeps (s : State) :
    s.moveStage.now = s.now ∧ s.moveStage.pins = s.pins ∧ s.moveStage.loader = s.loader ∧
      s.moveStage.brush0 = s.brush0 ∧ s.moveStage.brush1 = s.brush1 ∧ s.moveStage.ration = s.ration ∧
      s.moveStage.spray = s.spray ∧ s.moveStage.tableOwn = s.tableOwn ∧ s.moveStage.peers = s.peers ∧
      s.moveStage.link = s.link ∧ s.moveStage.ctl = s.ctl ∧ s.moveStage.capture = s.capture ∧
      s.moveStage.conv = s.conv ∧ s.moveStage.out = s.out ∧ s.moveStage.pending = s.pending := by
  unfold State.moveStage; (repeat' split) <;> simp

@[simp] theorem State.rampStage_keeps (s : State) (engaging : Bool) :
    (State.rampStage engaging s).now = s.now ∧ (State.rampStage engaging s).pins = s.pins ∧
      (State.rampStage engaging s).loader = s.loader ∧ (State.rampStage engaging s).brush0 = s.brush0 ∧
      (State.rampStage engaging s).brush1 = s.brush1 ∧ (State.rampStage engaging s).ration = s.ration ∧
      (State.rampStage engaging s).spray = s.spray ∧ (State.rampStage engaging s).tableOwn = s.tableOwn ∧
      (State.rampStage engaging s).peers = s.peers ∧ (State.rampStage engaging s).link = s.link ∧
      (State.rampStage engaging s).ctl = s.ctl ∧ (State.rampStage engaging s).capture = s.capture ∧
      (State.rampStage engaging s).conv = s.conv ∧ (State.rampStage engaging s).out = s.out ∧
      (State.rampStage engaging s).pending = s.pending := by
  unfold State.rampStage; split_ifs <;> simp

@[simp] theorem State.coilStage_keeps (s : State) :
    s.coilStage.now = s.now ∧ s.coilStage.pins = s.pins ∧ s.coilStage.loader = s.loader ∧
      s.coilStage.brush0 = s.brush0 ∧ s.coilStage.brush1 = s.brush1 ∧ s.coilStage.ration = s.ration ∧
      s.coilStage.spray = s.spray ∧ s.coilStage.tableOwn = s.tableOwn ∧ s.coilStage.peers = s.peers ∧
      s.coilStage.link = s.link ∧ s.coilStage.ctl = s.ctl ∧ s.coilStage.capture = s.capture ∧
      s.coilStage.conv = s.conv ∧ s.coilStage.pending = s.pending := by
  unfold State.coilStage; simp

@[simp] theorem State.driveStep_keeps (s : State) :
    s.driveStep.now = s.now ∧ s.driveStep.pins = s.pins ∧ s.driveStep.loader = s.loader ∧
      s.driveStep.brush0 = s.brush0 ∧ s.driveStep.brush1 = s.brush1 ∧ s.driveStep.ration = s.ration ∧
      s.driveStep.spray = s.spray ∧ s.driveStep.tableOwn = s.tableOwn ∧ s.driveStep.peers = s.peers ∧
      s.driveStep.link = s.link ∧ s.driveStep.capture = s.capture ∧ s.driveStep.conv = s.conv ∧
      s.driveStep.pending = s.pending := by
  unfold State.driveStep; dsimp only; split_ifs <;> simp

@[simp] theorem State.driveCoilReport_keeps (s : State) (code : FaultCode) :
    (s.driveCoilReport code).now = s.now ∧ (s.driveCoilReport code).pins = s.pins ∧
      (s.driveCoilReport code).loader = s.loader ∧ (s.driveCoilReport code).brush0 = s.brush0 ∧
      (s.driveCoilReport code).brush1 = s.brush1 ∧ (s.driveCoilReport code).ration = s.ration ∧
      (s.driveCoilReport code).spray = s.spray ∧ (s.driveCoilReport code).tableOwn = s.tableOwn ∧
      (s.driveCoilReport code).peers = s.peers ∧ (s.driveCoilReport code).link = s.link ∧
      (s.driveCoilReport code).capture = s.capture ∧ (s.driveCoilReport code).conv = s.conv ∧
      (s.driveCoilReport code).pending = s.pending := by
  unfold State.driveCoilReport; split <;> simp

@[simp] theorem State.driveSupplyStart_keeps (s : State) :
    s.driveSupplyStart.now = s.now ∧ s.driveSupplyStart.pins = s.pins ∧ s.driveSupplyStart.loader = s.loader ∧
      s.driveSupplyStart.brush0 = s.brush0 ∧ s.driveSupplyStart.brush1 = s.brush1 ∧
      s.driveSupplyStart.ration = s.ration ∧ s.driveSupplyStart.spray = s.spray ∧
      s.driveSupplyStart.tableOwn = s.tableOwn ∧ s.driveSupplyStart.peers = s.peers ∧
      s.driveSupplyStart.link = s.link ∧ s.driveSupplyStart.ctl = s.ctl ∧ s.driveSupplyStart.capture = s.capture ∧
      s.driveSupplyStart.conv = s.conv ∧ s.driveSupplyStart.pending = s.pending := by
  unfold State.driveSupplyStart; split <;> simp

@[simp] theorem State.driveSupplyRelease_keeps (s : State) :
    s.driveSupplyRelease.now = s.now ∧ s.driveSupplyRelease.pins = s.pins ∧ s.driveSupplyRelease.loader = s.loader ∧
      s.driveSupplyRelease.brush0 = s.brush0 ∧ s.driveSupplyRelease.brush1 = s.brush1 ∧
      s.driveSupplyRelease.ration = s.ration ∧ s.driveSupplyRelease.spray = s.spray ∧
      s.driveSupplyRelease.tableOwn = s.tableOwn ∧ s.driveSupplyRelease.peers = s.peers ∧
      s.driveSupplyRelease.link = s.link ∧ s.driveSupplyRelease.ctl = s.ctl ∧
      s.driveSupplyRelease.capture = s.capture ∧ s.driveSupplyRelease.conv = s.conv ∧
      s.driveSupplyRelease.out = s.out ∧ s.driveSupplyRelease.pending = s.pending := by
  unfold State.driveSupplyRelease; split <;> simp

@[simp] theorem State.driveYield_keeps (s : State) :
    s.driveYield.now = s.now ∧ s.driveYield.pins = s.pins ∧ s.driveYield.loader = s.loader ∧
      s.driveYield.brush0 = s.brush0 ∧ s.driveYield.brush1 = s.brush1 ∧ s.driveYield.ration = s.ration ∧
      s.driveYield.spray = s.spray ∧ s.driveYield.tableOwn = s.tableOwn ∧ s.driveYield.peers = s.peers ∧
      s.driveYield.link = s.link ∧ s.driveYield.capture = s.capture ∧ s.driveYield.conv = s.conv ∧
      s.driveYield.pending = s.pending := by
  unfold State.driveYield; split <;> simp

@[simp] theorem State.driveClear_keeps (s : State) :
    s.driveClear.now = s.now ∧ s.driveClear.pins = s.pins ∧ s.driveClear.loader = s.loader ∧
      s.driveClear.brush0 = s.brush0 ∧ s.driveClear.brush1 = s.brush1 ∧ s.driveClear.ration = s.ration ∧
      s.driveClear.spray = s.spray ∧ s.driveClear.tableOwn = s.tableOwn ∧ s.driveClear.peers = s.peers ∧
      s.driveClear.link = s.link ∧ s.driveClear.capture = s.capture ∧ s.driveClear.conv = s.conv ∧
      s.driveClear.out = s.out ∧ s.driveClear.pending = s.pending := by
  unfold State.driveClear; dsimp only; split_ifs <;> simp

@[simp] theorem State.driveStandby_keeps (s : State) :
    s.driveStandby.now = s.now ∧ s.driveStandby.pins = s.pins ∧ s.driveStandby.loader = s.loader ∧
      s.driveStandby.brush0 = s.brush0 ∧ s.driveStandby.brush1 = s.brush1 ∧ s.driveStandby.ration = s.ration ∧
      s.driveStandby.spray = s.spray ∧ s.driveStandby.tableOwn = s.tableOwn ∧ s.driveStandby.peers = s.peers ∧
      s.driveStandby.link = s.link ∧ s.driveStandby.ctl = s.ctl ∧ s.driveStandby.capture = s.capture ∧
      s.driveStandby.conv = s.conv ∧ s.driveStandby.pending = s.pending := by
  unfold State.driveStandby; simp

@[simp] theorem State.drivePeriodStart_keeps (s : State) (c : Coil) :
    (s.drivePeriodStart c).now = s.now ∧ (s.drivePeriodStart c).pins = s.pins ∧
      (s.drivePeriodStart c).loader = s.loader ∧ (s.drivePeriodStart c).brush0 = s.brush0 ∧
      (s.drivePeriodStart c).brush1 = s.brush1 ∧ (s.drivePeriodStart c).ration = s.ration ∧
      (s.drivePeriodStart c).spray = s.spray ∧ (s.drivePeriodStart c).tableOwn = s.tableOwn ∧
      (s.drivePeriodStart c).peers = s.peers ∧ (s.drivePeriodStart c).link = s.link ∧
      (s.drivePeriodStart c).ctl = s.ctl ∧ (s.drivePeriodStart c).capture = s.capture ∧
      (s.drivePeriodStart c).conv = s.conv ∧ (s.drivePeriodStart c).out = s.out ∧
      (s.drivePeriodStart c).pending = s.pending := by
  unfold State.drivePeriodStart; split <;> simp

@[simp] theorem State.rationStep_keeps (s : State) :
    s.rationStep.now = s.now ∧ s.rationStep.pins = s.pins ∧ s.rationStep.loader = s.loader ∧
      s.rationStep.brush0 = s.brush0 ∧ s.rationStep.brush1 = s.brush1 ∧ s.rationStep.spray = s.spray ∧
      s.rationStep.tableOwn = s.tableOwn ∧ s.rationStep.peers = s.peers ∧ s.rationStep.link = s.link ∧
      s.rationStep.capture = s.capture ∧ s.rationStep.conv = s.conv ∧ s.rationStep.pending = s.pending := by
  unfold State.rationStep; split <;> simp

@[simp] theorem State.rationStandby_keeps (s : State) :
    s.rationStandby.now = s.now ∧ s.rationStandby.pins = s.pins ∧ s.rationStandby.loader = s.loader ∧
      s.rationStandby.drive = s.drive ∧ s.rationStandby.brush0 = s.brush0 ∧ s.rationStandby.brush1 = s.brush1 ∧
      s.rationStandby.spray = s.spray ∧ s.rationStandby.tableOwn = s.tableOwn ∧ s.rationStandby.peers = s.peers ∧
      s.rationStandby.link = s.link ∧ s.rationStandby.capture = s.capture ∧ s.rationStandby.conv = s.conv ∧
      s.rationStandby.out = s.out ∧ s.rationStandby.pending = s.pending := by
  unfold State.rationStandby; simp

@[simp] theorem State.brushFault_keeps (s : State) (c : Chan) (code : FaultCode) :
    (s.brushFault c code).now = s.now ∧ (s.brushFault c code).pins = s.pins ∧
      (s.brushFault c code).loader = s.loader ∧ (s.brushFault c code).drive = s.drive ∧
      (s.brushFault c code).ration = s.ration ∧ (s.brushFault c code).spray = s.spray ∧
      (s.brushFault c code).tableOwn = s.tableOwn ∧ (s.brushFault c code).peers = s.peers ∧
      (s.brushFault c code).link = s.link ∧ (s.brushFault c code).capture = s.capture ∧
      (s.brushFault c code).conv = s.conv ∧ (s.brushFault c code).pending = s.pending := by
  unfold State.brushFault; simp

@[simp] theorem State.setBrushAndRecord_keeps (s : State) (c : Chan) (b : Brush) :
    (s.setBrushAndRecord c b).now = s.now ∧ (s.setBrushAndRecord c b).pins = s.pins ∧
      (s.setBrushAndRecord c b).loader = s.loader ∧ (s.setBrushAndRecord c b).drive = s.drive ∧
      (s.setBrushAndRecord c b).ration = s.ration ∧ (s.setBrushAndRecord c b).spray = s.spray ∧
      (s.setBrushAndRecord c b).tableOwn = s.tableOwn ∧ (s.setBrushAndRecord c b).peers = s.peers ∧
      (s.setBrushAndRecord c b).link = s.link ∧ (s.setBrushAndRecord c b).capture = s.capture ∧
      (s.setBrushAndRecord c b).conv = s.conv ∧ (s.setBrushAndRecord c b).pending = s.pending := by
  unfold State.setBrushAndRecord; split <;> simp

@[simp] theorem State.applyBrush_keeps (s : State) (c : Chan) (cause : BrushCause) :
    (s.applyBrush c cause).now = s.now ∧ (s.applyBrush c cause).pins = s.pins ∧
      (s.applyBrush c cause).loader = s.loader ∧ (s.applyBrush c cause).drive = s.drive ∧
      (s.applyBrush c cause).ration = s.ration ∧ (s.applyBrush c cause).spray = s.spray ∧
      (s.applyBrush c cause).tableOwn = s.tableOwn ∧ (s.applyBrush c cause).peers = s.peers ∧
      (s.applyBrush c cause).link = s.link ∧ (s.applyBrush c cause).capture = s.capture ∧
      (s.applyBrush c cause).conv = s.conv ∧ (s.applyBrush c cause).pending = s.pending := by
  unfold State.applyBrush; split <;> (try split_ifs) <;> simp

@[simp] theorem State.armContributions_keeps (s : State) (c : Chan) :
    (s.armContributions c).now = s.now ∧ (s.armContributions c).pins = s.pins ∧
      (s.armContributions c).loader = s.loader ∧ (s.armContributions c).drive = s.drive ∧
      (s.armContributions c).brush0 = s.brush0 ∧ (s.armContributions c).brush1 = s.brush1 ∧
      (s.armContributions c).ration = s.ration ∧ (s.armContributions c).spray = s.spray ∧
      (s.armContributions c).tableOwn = s.tableOwn ∧ (s.armContributions c).peers = s.peers ∧
      (s.armContributions c).link = s.link ∧ (s.armContributions c).capture = s.capture ∧
      (s.armContributions c).conv = s.conv ∧ (s.armContributions c).out = s.out ∧
      (s.armContributions c).pending = s.pending := by
  unfold State.armContributions; split <;> simp

@[simp] theorem State.brushStage1_keeps (s : State) (c : Chan) :
    (s.brushStage1 c).now = s.now ∧ (s.brushStage1 c).pins = s.pins ∧ (s.brushStage1 c).loader = s.loader ∧
      (s.brushStage1 c).drive = s.drive ∧ (s.brushStage1 c).ration = s.ration ∧ (s.brushStage1 c).spray = s.spray ∧
      (s.brushStage1 c).tableOwn = s.tableOwn ∧ (s.brushStage1 c).peers = s.peers ∧ (s.brushStage1 c).link = s.link ∧
      (s.brushStage1 c).capture = s.capture ∧ (s.brushStage1 c).conv = s.conv ∧
      (s.brushStage1 c).pending = s.pending := by
  unfold State.brushStage1; split <;> simp

@[simp] theorem State.brushStage1Both_keeps (s : State) (c : Chan) :
    (s.brushStage1Both c).now = s.now ∧ (s.brushStage1Both c).pins = s.pins ∧
      (s.brushStage1Both c).loader = s.loader ∧ (s.brushStage1Both c).drive = s.drive ∧
      (s.brushStage1Both c).ration = s.ration ∧ (s.brushStage1Both c).spray = s.spray ∧
      (s.brushStage1Both c).tableOwn = s.tableOwn ∧ (s.brushStage1Both c).peers = s.peers ∧
      (s.brushStage1Both c).link = s.link ∧ (s.brushStage1Both c).capture = s.capture ∧
      (s.brushStage1Both c).conv = s.conv ∧ (s.brushStage1Both c).pending = s.pending := by
  unfold State.brushStage1Both; simp

@[simp] theorem State.brushStage3_keeps (s : State) (c : Chan) :
    (s.brushStage3 c).now = s.now ∧ (s.brushStage3 c).pins = s.pins ∧ (s.brushStage3 c).loader = s.loader ∧
      (s.brushStage3 c).drive = s.drive ∧ (s.brushStage3 c).ration = s.ration ∧ (s.brushStage3 c).spray = s.spray ∧
      (s.brushStage3 c).tableOwn = s.tableOwn ∧ (s.brushStage3 c).peers = s.peers ∧ (s.brushStage3 c).link = s.link ∧
      (s.brushStage3 c).ctl = s.ctl ∧ (s.brushStage3 c).capture = s.capture ∧ (s.brushStage3 c).conv = s.conv ∧
      (s.brushStage3 c).pending = s.pending := by
  unfold State.brushStage3; dsimp only; split_ifs <;> simp

@[simp] theorem State.brushStep_keeps (s : State) (c : Chan) :
    (State.brushStep c s).now = s.now ∧ (State.brushStep c s).pins = s.pins ∧
      (State.brushStep c s).loader = s.loader ∧ (State.brushStep c s).spray = s.spray ∧
      (State.brushStep c s).tableOwn = s.tableOwn ∧ (State.brushStep c s).peers = s.peers ∧
      (State.brushStep c s).link = s.link ∧ (State.brushStep c s).capture = s.capture ∧
      (State.brushStep c s).conv = s.conv ∧ (State.brushStep c s).pending = s.pending := by
  unfold State.brushStep; simp

@[simp] theorem State.brushCoilReport_keeps (s : State) (c : Chan) (code : FaultCode) :
    (s.brushCoilReport c code).now = s.now ∧ (s.brushCoilReport c code).pins = s.pins ∧
      (s.brushCoilReport c code).loader = s.loader ∧ (s.brushCoilReport c code).drive = s.drive ∧
      (s.brushCoilReport c code).ration = s.ration ∧ (s.brushCoilReport c code).spray = s.spray ∧
      (s.brushCoilReport c code).tableOwn = s.tableOwn ∧ (s.brushCoilReport c code).peers = s.peers ∧
      (s.brushCoilReport c code).link = s.link ∧ (s.brushCoilReport c code).capture = s.capture ∧
      (s.brushCoilReport c code).conv = s.conv ∧ (s.brushCoilReport c code).pending = s.pending := by
  unfold State.brushCoilReport; split <;> simp

@[simp] theorem State.brushSupplyStart_keeps (s : State) (c : Chan) :
    (s.brushSupplyStart c).now = s.now ∧ (s.brushSupplyStart c).pins = s.pins ∧
      (s.brushSupplyStart c).loader = s.loader ∧ (s.brushSupplyStart c).drive = s.drive ∧
      (s.brushSupplyStart c).ration = s.ration ∧ (s.brushSupplyStart c).spray = s.spray ∧
      (s.brushSupplyStart c).tableOwn = s.tableOwn ∧ (s.brushSupplyStart c).peers = s.peers ∧
      (s.brushSupplyStart c).link = s.link ∧ (s.brushSupplyStart c).ctl = s.ctl ∧
      (s.brushSupplyStart c).capture = s.capture ∧ (s.brushSupplyStart c).conv = s.conv ∧
      (s.brushSupplyStart c).pending = s.pending := by
  unfold State.brushSupplyStart; split <;> simp

@[simp] theorem State.brushSupplyRelease_keeps (s : State) (c : Chan) :
    (s.brushSupplyRelease c).now = s.now ∧ (s.brushSupplyRelease c).pins = s.pins ∧
      (s.brushSupplyRelease c).loader = s.loader ∧ (s.brushSupplyRelease c).drive = s.drive ∧
      (s.brushSupplyRelease c).ration = s.ration ∧ (s.brushSupplyRelease c).spray = s.spray ∧
      (s.brushSupplyRelease c).tableOwn = s.tableOwn ∧ (s.brushSupplyRelease c).peers = s.peers ∧
      (s.brushSupplyRelease c).link = s.link ∧ (s.brushSupplyRelease c).capture = s.capture ∧
      (s.brushSupplyRelease c).conv = s.conv ∧ (s.brushSupplyRelease c).pending = s.pending := by
  unfold State.brushSupplyRelease; split_ifs <;> simp

@[simp] theorem State.brushClear_keeps (s : State) (c : Chan) :
    (s.brushClear c).now = s.now ∧ (s.brushClear c).pins = s.pins ∧ (s.brushClear c).loader = s.loader ∧
      (s.brushClear c).drive = s.drive ∧ (s.brushClear c).ration = s.ration ∧ (s.brushClear c).spray = s.spray ∧
      (s.brushClear c).tableOwn = s.tableOwn ∧ (s.brushClear c).peers = s.peers ∧ (s.brushClear c).link = s.link ∧
      (s.brushClear c).capture = s.capture ∧ (s.brushClear c).conv = s.conv ∧
      (s.brushClear c).pending = s.pending := by
  unfold State.brushClear; dsimp only; split_ifs <;> simp

@[simp] theorem State.brushStandby_keeps (s : State) (c : Chan) :
    (s.brushStandby c).now = s.now ∧ (s.brushStandby c).pins = s.pins ∧ (s.brushStandby c).loader = s.loader ∧
      (s.brushStandby c).drive = s.drive ∧ (s.brushStandby c).ration = s.ration ∧
      (s.brushStandby c).spray = s.spray ∧ (s.brushStandby c).tableOwn = s.tableOwn ∧
      (s.brushStandby c).peers = s.peers ∧ (s.brushStandby c).link = s.link ∧
      (s.brushStandby c).capture = s.capture ∧ (s.brushStandby c).conv = s.conv ∧
      (s.brushStandby c).pending = s.pending := by
  unfold State.brushStandby; split <;> simp

@[simp] theorem State.sprayFault_keeps (s : State) (x : Spray) (code : FaultCode) :
    (s.sprayFault x code).now = s.now ∧ (s.sprayFault x code).pins = s.pins ∧
      (s.sprayFault x code).loader = s.loader ∧ (s.sprayFault x code).drive = s.drive ∧
      (s.sprayFault x code).brush0 = s.brush0 ∧ (s.sprayFault x code).brush1 = s.brush1 ∧
      (s.sprayFault x code).ration = s.ration ∧ (s.sprayFault x code).tableOwn = s.tableOwn ∧
      (s.sprayFault x code).peers = s.peers ∧ (s.sprayFault x code).link = s.link ∧
      (s.sprayFault x code).capture = s.capture ∧ (s.sprayFault x code).conv = s.conv ∧
      (s.sprayFault x code).pending = s.pending := by
  unfold State.sprayFault; simp

@[simp] theorem State.removeSprayRecovering_keeps (s : State) :
    s.removeSprayRecovering.now = s.now ∧ s.removeSprayRecovering.pins = s.pins ∧
      s.removeSprayRecovering.loader = s.loader ∧ s.removeSprayRecovering.drive = s.drive ∧
      s.removeSprayRecovering.brush0 = s.brush0 ∧ s.removeSprayRecovering.brush1 = s.brush1 ∧
      s.removeSprayRecovering.ration = s.ration ∧ s.removeSprayRecovering.spray = s.spray ∧
      s.removeSprayRecovering.tableOwn = s.tableOwn ∧ s.removeSprayRecovering.peers = s.peers ∧
      s.removeSprayRecovering.link = s.link ∧ s.removeSprayRecovering.capture = s.capture ∧
      s.removeSprayRecovering.conv = s.conv ∧ s.removeSprayRecovering.out = s.out ∧
      s.removeSprayRecovering.pending = s.pending := by
  unfold State.removeSprayRecovering; simp

@[simp] theorem State.applySpray_keeps (s : State) (cause : SprayCause) :
    (s.applySpray cause).now = s.now ∧ (s.applySpray cause).pins = s.pins ∧ (s.applySpray cause).loader = s.loader ∧
      (s.applySpray cause).drive = s.drive ∧ (s.applySpray cause).brush0 = s.brush0 ∧
      (s.applySpray cause).brush1 = s.brush1 ∧ (s.applySpray cause).ration = s.ration ∧
      (s.applySpray cause).tableOwn = s.tableOwn ∧ (s.applySpray cause).peers = s.peers ∧
      (s.applySpray cause).link = s.link ∧ (s.applySpray cause).capture = s.capture ∧
      (s.applySpray cause).conv = s.conv ∧ (s.applySpray cause).pending = s.pending := by
  unfold State.applySpray; dsimp only; split <;> (try split_ifs) <;> simp

@[simp] theorem State.sprayOutputs_keeps (s : State) :
    s.sprayOutputs.now = s.now ∧ s.sprayOutputs.pins = s.pins ∧ s.sprayOutputs.loader = s.loader ∧
      s.sprayOutputs.drive = s.drive ∧ s.sprayOutputs.brush0 = s.brush0 ∧ s.sprayOutputs.brush1 = s.brush1 ∧
      s.sprayOutputs.ration = s.ration ∧ s.sprayOutputs.tableOwn = s.tableOwn ∧ s.sprayOutputs.peers = s.peers ∧
      s.sprayOutputs.link = s.link ∧ s.sprayOutputs.ctl = s.ctl ∧ s.sprayOutputs.capture = s.capture ∧
      s.sprayOutputs.conv = s.conv ∧ s.sprayOutputs.pending = s.pending := by
  unfold State.sprayOutputs; simp

@[simp] theorem State.sprayStep_keeps (s : State) :
    s.sprayStep.now = s.now ∧ s.sprayStep.pins = s.pins ∧ s.sprayStep.loader = s.loader ∧
      s.sprayStep.drive = s.drive ∧ s.sprayStep.brush0 = s.brush0 ∧ s.sprayStep.brush1 = s.brush1 ∧
      s.sprayStep.ration = s.ration ∧ s.sprayStep.tableOwn = s.tableOwn ∧ s.sprayStep.peers = s.peers ∧
      s.sprayStep.link = s.link ∧ s.sprayStep.capture = s.capture ∧ s.sprayStep.conv = s.conv ∧
      s.sprayStep.pending = s.pending := by
  unfold State.sprayStep; simp

@[simp] theorem State.sprayCoilReport_keeps (s : State) (code : FaultCode) :
    (s.sprayCoilReport code).now = s.now ∧ (s.sprayCoilReport code).pins = s.pins ∧
      (s.sprayCoilReport code).loader = s.loader ∧ (s.sprayCoilReport code).drive = s.drive ∧
      (s.sprayCoilReport code).brush0 = s.brush0 ∧ (s.sprayCoilReport code).brush1 = s.brush1 ∧
      (s.sprayCoilReport code).ration = s.ration ∧ (s.sprayCoilReport code).tableOwn = s.tableOwn ∧
      (s.sprayCoilReport code).peers = s.peers ∧ (s.sprayCoilReport code).link = s.link ∧
      (s.sprayCoilReport code).capture = s.capture ∧ (s.sprayCoilReport code).conv = s.conv ∧
      (s.sprayCoilReport code).pending = s.pending := by
  unfold State.sprayCoilReport; split <;> simp

@[simp] theorem State.spraySupplyStart_keeps (s : State) :
    s.spraySupplyStart.now = s.now ∧ s.spraySupplyStart.pins = s.pins ∧ s.spraySupplyStart.loader = s.loader ∧
      s.spraySupplyStart.drive = s.drive ∧ s.spraySupplyStart.brush0 = s.brush0 ∧
      s.spraySupplyStart.brush1 = s.brush1 ∧ s.spraySupplyStart.ration = s.ration ∧
      s.spraySupplyStart.tableOwn = s.tableOwn ∧ s.spraySupplyStart.peers = s.peers ∧
      s.spraySupplyStart.link = s.link ∧ s.spraySupplyStart.ctl = s.ctl ∧ s.spraySupplyStart.capture = s.capture ∧
      s.spraySupplyStart.conv = s.conv ∧ s.spraySupplyStart.pending = s.pending := by
  unfold State.spraySupplyStart; split <;> simp

@[simp] theorem State.spraySupplyRelease_keeps (s : State) :
    s.spraySupplyRelease.now = s.now ∧ s.spraySupplyRelease.pins = s.pins ∧ s.spraySupplyRelease.loader = s.loader ∧
      s.spraySupplyRelease.drive = s.drive ∧ s.spraySupplyRelease.brush0 = s.brush0 ∧
      s.spraySupplyRelease.brush1 = s.brush1 ∧ s.spraySupplyRelease.ration = s.ration ∧
      s.spraySupplyRelease.tableOwn = s.tableOwn ∧ s.spraySupplyRelease.peers = s.peers ∧
      s.spraySupplyRelease.link = s.link ∧ s.spraySupplyRelease.ctl = s.ctl ∧
      s.spraySupplyRelease.capture = s.capture ∧ s.spraySupplyRelease.conv = s.conv ∧
      s.spraySupplyRelease.pending = s.pending := by
  unfold State.spraySupplyRelease; split <;> simp

@[simp] theorem State.sprayClear_keeps (s : State) :
    s.sprayClear.now = s.now ∧ s.sprayClear.pins = s.pins ∧ s.sprayClear.loader = s.loader ∧
      s.sprayClear.drive = s.drive ∧ s.sprayClear.brush0 = s.brush0 ∧ s.sprayClear.brush1 = s.brush1 ∧
      s.sprayClear.ration = s.ration ∧ s.sprayClear.tableOwn = s.tableOwn ∧ s.sprayClear.peers = s.peers ∧
      s.sprayClear.link = s.link ∧ s.sprayClear.capture = s.capture ∧ s.sprayClear.conv = s.conv ∧
      s.sprayClear.pending = s.pending := by
  unfold State.sprayClear; split_ifs <;> simp

@[simp] theorem State.sprayStandby_keeps (s : State) :
    s.sprayStandby.now = s.now ∧ s.sprayStandby.pins = s.pins ∧ s.sprayStandby.loader = s.loader ∧
      s.sprayStandby.drive = s.drive ∧ s.sprayStandby.brush0 = s.brush0 ∧ s.sprayStandby.brush1 = s.brush1 ∧
      s.sprayStandby.ration = s.ration ∧ s.sprayStandby.tableOwn = s.tableOwn ∧ s.sprayStandby.peers = s.peers ∧
      s.sprayStandby.link = s.link ∧ s.sprayStandby.ctl = s.ctl ∧ s.sprayStandby.capture = s.capture ∧
      s.sprayStandby.conv = s.conv ∧ s.sprayStandby.pending = s.pending := by
  unfold State.sprayStandby; simp

@[simp] theorem State.arrival_keeps (s : State) (f : StateFrame) :
    (s.arrival f).now = s.now ∧ (s.arrival f).pins = s.pins ∧ (s.arrival f).loader = s.loader ∧
      (s.arrival f).brush0 = s.brush0 ∧ (s.arrival f).brush1 = s.brush1 ∧ (s.arrival f).ration = s.ration ∧
      (s.arrival f).spray = s.spray ∧ (s.arrival f).tableOwn = s.tableOwn ∧ (s.arrival f).link = s.link ∧
      (s.arrival f).capture = s.capture ∧ (s.arrival f).conv = s.conv ∧ (s.arrival f).pending = s.pending := by
  unfold State.arrival; split <;> simp

@[simp] theorem State.peersStandby_keeps (s : State) :
    s.peersStandby.now = s.now ∧ s.peersStandby.pins = s.pins ∧ s.peersStandby.loader = s.loader ∧
      s.peersStandby.drive = s.drive ∧ s.peersStandby.brush0 = s.brush0 ∧ s.peersStandby.brush1 = s.brush1 ∧
      s.peersStandby.ration = s.ration ∧ s.peersStandby.spray = s.spray ∧ s.peersStandby.tableOwn = s.tableOwn ∧
      s.peersStandby.link = s.link ∧ s.peersStandby.ctl = s.ctl ∧ s.peersStandby.capture = s.capture ∧
      s.peersStandby.conv = s.conv ∧ s.peersStandby.out = s.out ∧ s.peersStandby.pending = s.pending := by
  unfold State.peersStandby; simp

@[simp] theorem State.peersStart_keeps (s : State) (own : Nat) (expected : List Nat) :
    (s.peersStart own expected).now = s.now ∧ (s.peersStart own expected).pins = s.pins ∧
      (s.peersStart own expected).loader = s.loader ∧ (s.peersStart own expected).drive = s.drive ∧
      (s.peersStart own expected).brush0 = s.brush0 ∧ (s.peersStart own expected).brush1 = s.brush1 ∧
      (s.peersStart own expected).ration = s.ration ∧ (s.peersStart own expected).spray = s.spray ∧
      (s.peersStart own expected).link = s.link ∧ (s.peersStart own expected).ctl = s.ctl ∧
      (s.peersStart own expected).capture = s.capture ∧ (s.peersStart own expected).conv = s.conv ∧
      (s.peersStart own expected).out = s.out ∧ (s.peersStart own expected).pending = s.pending := by
  unfold State.peersStart; simp

@[simp] theorem State.postLink_keeps (s : State) (code : FaultCode) :
    (s.postLink code).now = s.now ∧ (s.postLink code).pins = s.pins ∧ (s.postLink code).loader = s.loader ∧
      (s.postLink code).drive = s.drive ∧ (s.postLink code).brush0 = s.brush0 ∧ (s.postLink code).brush1 = s.brush1 ∧
      (s.postLink code).ration = s.ration ∧ (s.postLink code).spray = s.spray ∧
      (s.postLink code).tableOwn = s.tableOwn ∧ (s.postLink code).peers = s.peers ∧
      (s.postLink code).capture = s.capture ∧ (s.postLink code).conv = s.conv ∧ (s.postLink code).out = s.out ∧
      (s.postLink code).pending = s.pending := by
  unfold State.postLink; simp

@[simp] theorem State.listenOnly_keeps (s : State) :
    s.listenOnly.now = s.now ∧ s.listenOnly.pins = s.pins ∧ s.listenOnly.loader = s.loader ∧
      s.listenOnly.drive = s.drive ∧ s.listenOnly.brush0 = s.brush0 ∧ s.listenOnly.brush1 = s.brush1 ∧
      s.listenOnly.ration = s.ration ∧ s.listenOnly.spray = s.spray ∧ s.listenOnly.tableOwn = s.tableOwn ∧
      s.listenOnly.peers = s.peers ∧ s.listenOnly.capture = s.capture ∧ s.listenOnly.conv = s.conv ∧
      s.listenOnly.out = s.out ∧ s.listenOnly.pending = s.pending := by
  unfold State.listenOnly; simp

@[simp] theorem State.clash_keeps (s : State) :
    s.clash.now = s.now ∧ s.clash.pins = s.pins ∧ s.clash.loader = s.loader ∧ s.clash.drive = s.drive ∧
      s.clash.brush0 = s.brush0 ∧ s.clash.brush1 = s.brush1 ∧ s.clash.ration = s.ration ∧ s.clash.spray = s.spray ∧
      s.clash.tableOwn = s.tableOwn ∧ s.clash.peers = s.peers ∧ s.clash.capture = s.capture ∧ s.clash.conv = s.conv ∧
      s.clash.out = s.out ∧ s.clash.pending = s.pending := by
  unfold State.clash; split <;> simp

@[simp] theorem State.linkClear_keeps (s : State) :
    s.linkClear.now = s.now ∧ s.linkClear.pins = s.pins ∧ s.linkClear.loader = s.loader ∧
      s.linkClear.drive = s.drive ∧ s.linkClear.brush0 = s.brush0 ∧ s.linkClear.brush1 = s.brush1 ∧
      s.linkClear.ration = s.ration ∧ s.linkClear.spray = s.spray ∧ s.linkClear.tableOwn = s.tableOwn ∧
      s.linkClear.peers = s.peers ∧ s.linkClear.capture = s.capture ∧ s.linkClear.conv = s.conv ∧
      s.linkClear.out = s.out ∧ s.linkClear.pending = s.pending := by
  unfold State.linkClear; split <;> simp

@[simp] theorem State.linkStandby_keeps (s : State) :
    s.linkStandby.now = s.now ∧ s.linkStandby.pins = s.pins ∧ s.linkStandby.loader = s.loader ∧
      s.linkStandby.drive = s.drive ∧ s.linkStandby.brush0 = s.brush0 ∧ s.linkStandby.brush1 = s.brush1 ∧
      s.linkStandby.ration = s.ration ∧ s.linkStandby.spray = s.spray ∧ s.linkStandby.tableOwn = s.tableOwn ∧
      s.linkStandby.peers = s.peers ∧ s.linkStandby.ctl = s.ctl ∧ s.linkStandby.capture = s.capture ∧
      s.linkStandby.conv = s.conv ∧ s.linkStandby.out = s.out ∧ s.linkStandby.pending = s.pending := by
  unfold State.linkStandby; split <;> simp

@[simp] theorem State.linkLeaveStandby_keeps (s : State) :
    s.linkLeaveStandby.now = s.now ∧ s.linkLeaveStandby.pins = s.pins ∧ s.linkLeaveStandby.loader = s.loader ∧
      s.linkLeaveStandby.drive = s.drive ∧ s.linkLeaveStandby.brush0 = s.brush0 ∧
      s.linkLeaveStandby.brush1 = s.brush1 ∧ s.linkLeaveStandby.ration = s.ration ∧
      s.linkLeaveStandby.spray = s.spray ∧ s.linkLeaveStandby.tableOwn = s.tableOwn ∧
      s.linkLeaveStandby.peers = s.peers ∧ s.linkLeaveStandby.ctl = s.ctl ∧ s.linkLeaveStandby.capture = s.capture ∧
      s.linkLeaveStandby.conv = s.conv ∧ s.linkLeaveStandby.out = s.out ∧
      s.linkLeaveStandby.pending = s.pending := by
  unfold State.linkLeaveStandby; split <;> (try split_ifs) <;> simp

@[simp] theorem State.abandon_keeps (s : State) :
    s.abandon.now = s.now ∧ s.abandon.pins = s.pins ∧ s.abandon.loader = s.loader ∧ s.abandon.drive = s.drive ∧
      s.abandon.brush0 = s.brush0 ∧ s.abandon.brush1 = s.brush1 ∧ s.abandon.ration = s.ration ∧
      s.abandon.spray = s.spray ∧ s.abandon.tableOwn = s.tableOwn ∧ s.abandon.peers = s.peers ∧
      s.abandon.capture = s.capture ∧ s.abandon.conv = s.conv ∧ s.abandon.out = s.out ∧
      s.abandon.pending = s.pending := by
  unfold State.abandon; dsimp only; split_ifs <;> simp

@[simp] theorem State.complete_keeps (s : State) (f : OwnFrame) :
    (s.complete f).now = s.now ∧ (s.complete f).pins = s.pins ∧ (s.complete f).loader = s.loader ∧
      (s.complete f).drive = s.drive ∧ (s.complete f).brush0 = s.brush0 ∧ (s.complete f).brush1 = s.brush1 ∧
      (s.complete f).ration = s.ration ∧ (s.complete f).spray = s.spray ∧ (s.complete f).tableOwn = s.tableOwn ∧
      (s.complete f).peers = s.peers ∧ (s.complete f).capture = s.capture ∧ (s.complete f).conv = s.conv ∧
      (s.complete f).out = s.out ∧ (s.complete f).pending = s.pending := by
  unfold State.complete; simp

@[simp] theorem State.sentToCompletion_keeps (s : State) :
    s.sentToCompletion.now = s.now ∧ s.sentToCompletion.pins = s.pins ∧ s.sentToCompletion.loader = s.loader ∧
      s.sentToCompletion.drive = s.drive ∧ s.sentToCompletion.brush0 = s.brush0 ∧
      s.sentToCompletion.brush1 = s.brush1 ∧ s.sentToCompletion.ration = s.ration ∧
      s.sentToCompletion.spray = s.spray ∧ s.sentToCompletion.tableOwn = s.tableOwn ∧
      s.sentToCompletion.peers = s.peers ∧ s.sentToCompletion.capture = s.capture ∧
      s.sentToCompletion.conv = s.conv ∧ s.sentToCompletion.out = s.out ∧
      s.sentToCompletion.pending = s.pending := by
  unfold State.sentToCompletion; split <;> simp

@[simp] theorem State.frameEnded_keeps (s : State) (f : BusFrame) :
    (s.frameEnded f).now = s.now ∧ (s.frameEnded f).pins = s.pins ∧ (s.frameEnded f).loader = s.loader ∧
      (s.frameEnded f).drive = s.drive ∧ (s.frameEnded f).brush0 = s.brush0 ∧ (s.frameEnded f).brush1 = s.brush1 ∧
      (s.frameEnded f).ration = s.ration ∧ (s.frameEnded f).spray = s.spray ∧
      (s.frameEnded f).tableOwn = s.tableOwn ∧ (s.frameEnded f).peers = s.peers ∧ (s.frameEnded f).ctl = s.ctl ∧
      (s.frameEnded f).capture = s.capture ∧ (s.frameEnded f).conv = s.conv ∧ (s.frameEnded f).out = s.out ∧
      (s.frameEnded f).pending = s.pending := by
  unfold State.frameEnded; simp

@[simp] theorem State.handState_keeps (s : State) (x : StateFrame) :
    (s.handState x).now = s.now ∧ (s.handState x).pins = s.pins ∧ (s.handState x).loader = s.loader ∧
      (s.handState x).brush0 = s.brush0 ∧ (s.handState x).brush1 = s.brush1 ∧ (s.handState x).ration = s.ration ∧
      (s.handState x).spray = s.spray ∧ (s.handState x).tableOwn = s.tableOwn ∧ (s.handState x).capture = s.capture ∧
      (s.handState x).conv = s.conv ∧ (s.handState x).pending = s.pending := by
  unfold State.handState; split_ifs <;> simp

@[simp] theorem State.receiveState_keeps (s : State) (f : BusFrame) :
    (s.receiveState f).now = s.now ∧ (s.receiveState f).pins = s.pins ∧ (s.receiveState f).loader = s.loader ∧
      (s.receiveState f).brush0 = s.brush0 ∧ (s.receiveState f).brush1 = s.brush1 ∧
      (s.receiveState f).ration = s.ration ∧ (s.receiveState f).spray = s.spray ∧
      (s.receiveState f).tableOwn = s.tableOwn ∧ (s.receiveState f).capture = s.capture ∧
      (s.receiveState f).conv = s.conv ∧ (s.receiveState f).pending = s.pending := by
  unfold State.receiveState; split <;> simp

@[simp] theorem State.discardFrame_keeps (s : State) (f : BusFrame) :
    (s.discardFrame f).now = s.now ∧ (s.discardFrame f).pins = s.pins ∧ (s.discardFrame f).loader = s.loader ∧
      (s.discardFrame f).drive = s.drive ∧ (s.discardFrame f).brush0 = s.brush0 ∧
      (s.discardFrame f).brush1 = s.brush1 ∧ (s.discardFrame f).ration = s.ration ∧
      (s.discardFrame f).spray = s.spray ∧ (s.discardFrame f).tableOwn = s.tableOwn ∧
      (s.discardFrame f).peers = s.peers ∧ (s.discardFrame f).ctl = s.ctl ∧ (s.discardFrame f).capture = s.capture ∧
      (s.discardFrame f).conv = s.conv ∧ (s.discardFrame f).out = s.out ∧
      (s.discardFrame f).pending = s.pending := by
  unfold State.discardFrame; split <;> simp

@[simp] theorem State.listenEnd_keeps (s : State) :
    s.listenEnd.now = s.now ∧ s.listenEnd.pins = s.pins ∧ s.listenEnd.loader = s.loader ∧
      s.listenEnd.drive = s.drive ∧ s.listenEnd.brush0 = s.brush0 ∧ s.listenEnd.brush1 = s.brush1 ∧
      s.listenEnd.ration = s.ration ∧ s.listenEnd.spray = s.spray ∧ s.listenEnd.tableOwn = s.tableOwn ∧
      s.listenEnd.peers = s.peers ∧ s.listenEnd.capture = s.capture ∧ s.listenEnd.conv = s.conv ∧
      s.listenEnd.out = s.out ∧ s.listenEnd.pending = s.pending := by
  unfold State.listenEnd; split <;> simp

@[simp] theorem State.quietEnd_keeps (s : State) :
    s.quietEnd.now = s.now ∧ s.quietEnd.pins = s.pins ∧ s.quietEnd.loader = s.loader ∧ s.quietEnd.drive = s.drive ∧
      s.quietEnd.brush0 = s.brush0 ∧ s.quietEnd.brush1 = s.brush1 ∧ s.quietEnd.ration = s.ration ∧
      s.quietEnd.spray = s.spray ∧ s.quietEnd.tableOwn = s.tableOwn ∧ s.quietEnd.peers = s.peers ∧
      s.quietEnd.capture = s.capture ∧ s.quietEnd.conv = s.conv ∧ s.quietEnd.out = s.out ∧
      s.quietEnd.pending = s.pending := by
  unfold State.quietEnd; simp

@[simp] theorem State.takeEdge_keeps (s : State) (k : Pulse) :
    (s.takeEdge k).now = s.now ∧ (s.takeEdge k).pins = s.pins ∧ (s.takeEdge k).loader = s.loader ∧
      (s.takeEdge k).drive = s.drive ∧ (s.takeEdge k).brush0 = s.brush0 ∧ (s.takeEdge k).brush1 = s.brush1 ∧
      (s.takeEdge k).ration = s.ration ∧ (s.takeEdge k).spray = s.spray ∧ (s.takeEdge k).tableOwn = s.tableOwn ∧
      (s.takeEdge k).peers = s.peers ∧ (s.takeEdge k).link = s.link ∧ (s.takeEdge k).ctl = s.ctl ∧
      (s.takeEdge k).conv = s.conv ∧ (s.takeEdge k).out = s.out ∧ (s.takeEdge k).pending = s.pending := by
  unfold State.takeEdge; simp

@[simp] theorem State.captureStandby_keeps (s : State) :
    s.captureStandby.now = s.now ∧ s.captureStandby.pins = s.pins ∧ s.captureStandby.loader = s.loader ∧
      s.captureStandby.drive = s.drive ∧ s.captureStandby.brush0 = s.brush0 ∧ s.captureStandby.brush1 = s.brush1 ∧
      s.captureStandby.ration = s.ration ∧ s.captureStandby.spray = s.spray ∧
      s.captureStandby.tableOwn = s.tableOwn ∧ s.captureStandby.peers = s.peers ∧ s.captureStandby.link = s.link ∧
      s.captureStandby.ctl = s.ctl ∧ s.captureStandby.conv = s.conv ∧ s.captureStandby.out = s.out ∧
      s.captureStandby.pending = s.pending := by
  unfold State.captureStandby; simp

@[simp] theorem State.startNotices_keeps (s : State) :
    s.startNotices.now = s.now ∧ s.startNotices.pins = s.pins ∧ s.startNotices.loader = s.loader ∧
      s.startNotices.ration = s.ration ∧ s.startNotices.tableOwn = s.tableOwn ∧ s.startNotices.peers = s.peers ∧
      s.startNotices.link = s.link ∧ s.startNotices.ctl = s.ctl ∧ s.startNotices.capture = s.capture ∧
      s.startNotices.conv = s.conv ∧ s.startNotices.pending = s.pending := by
  unfold State.startNotices; simp

@[simp] theorem State.releaseNotices_keeps (s : State) :
    s.releaseNotices.now = s.now ∧ s.releaseNotices.pins = s.pins ∧ s.releaseNotices.loader = s.loader ∧
      s.releaseNotices.ration = s.ration ∧ s.releaseNotices.tableOwn = s.tableOwn ∧
      s.releaseNotices.peers = s.peers ∧ s.releaseNotices.link = s.link ∧ s.releaseNotices.capture = s.capture ∧
      s.releaseNotices.conv = s.conv ∧ s.releaseNotices.pending = s.pending := by
  unfold State.releaseNotices; simp

@[simp] theorem State.makeSupplyRecord_keeps (s : State) :
    s.makeSupplyRecord.now = s.now ∧ s.makeSupplyRecord.pins = s.pins ∧ s.makeSupplyRecord.loader = s.loader ∧
      s.makeSupplyRecord.drive = s.drive ∧ s.makeSupplyRecord.brush0 = s.brush0 ∧
      s.makeSupplyRecord.brush1 = s.brush1 ∧ s.makeSupplyRecord.ration = s.ration ∧
      s.makeSupplyRecord.spray = s.spray ∧ s.makeSupplyRecord.tableOwn = s.tableOwn ∧
      s.makeSupplyRecord.peers = s.peers ∧ s.makeSupplyRecord.link = s.link ∧
      s.makeSupplyRecord.capture = s.capture ∧ s.makeSupplyRecord.conv = s.conv ∧ s.makeSupplyRecord.out = s.out ∧
      s.makeSupplyRecord.pending = s.pending := by
  unfold State.makeSupplyRecord; simp

@[simp] theorem State.superviseSupply_keeps (s : State) (v : Nat) :
    (s.superviseSupply v).now = s.now ∧ (s.superviseSupply v).pins = s.pins ∧
      (s.superviseSupply v).loader = s.loader ∧ (s.superviseSupply v).ration = s.ration ∧
      (s.superviseSupply v).tableOwn = s.tableOwn ∧ (s.superviseSupply v).peers = s.peers ∧
      (s.superviseSupply v).link = s.link ∧ (s.superviseSupply v).capture = s.capture ∧
      (s.superviseSupply v).conv = s.conv ∧ (s.superviseSupply v).pending = s.pending := by
  unfold State.superviseSupply; dsimp only; split <;> simp

@[simp] theorem State.supplyStandby_keeps (s : State) :
    s.supplyStandby.now = s.now ∧ s.supplyStandby.pins = s.pins ∧ s.supplyStandby.loader = s.loader ∧
      s.supplyStandby.drive = s.drive ∧ s.supplyStandby.brush0 = s.brush0 ∧ s.supplyStandby.brush1 = s.brush1 ∧
      s.supplyStandby.ration = s.ration ∧ s.supplyStandby.spray = s.spray ∧ s.supplyStandby.tableOwn = s.tableOwn ∧
      s.supplyStandby.peers = s.peers ∧ s.supplyStandby.link = s.link ∧ s.supplyStandby.ctl = s.ctl ∧
      s.supplyStandby.capture = s.capture ∧ s.supplyStandby.conv = s.conv ∧ s.supplyStandby.pending = s.pending := by
  unfold State.supplyStandby; simp

@[simp] theorem State.superviseLate_keeps (s : State) (v : Nat) :
    (s.superviseLate v).now = s.now ∧ (s.superviseLate v).pins = s.pins ∧ (s.superviseLate v).loader = s.loader ∧
      (s.superviseLate v).drive = s.drive ∧ (s.superviseLate v).brush0 = s.brush0 ∧
      (s.superviseLate v).brush1 = s.brush1 ∧ (s.superviseLate v).ration = s.ration ∧
      (s.superviseLate v).spray = s.spray ∧ (s.superviseLate v).tableOwn = s.tableOwn ∧
      (s.superviseLate v).peers = s.peers ∧ (s.superviseLate v).link = s.link ∧ (s.superviseLate v).ctl = s.ctl ∧
      (s.superviseLate v).capture = s.capture ∧ (s.superviseLate v).conv = s.conv ∧
      (s.superviseLate v).pending = s.pending := by
  unfold State.superviseLate; split <;> simp

@[simp] theorem State.enterMode_keeps (s : State) (new : Mode) :
    (s.enterMode new).now = s.now ∧ (s.enterMode new).pins = s.pins ∧ (s.enterMode new).loader = s.loader ∧
      (s.enterMode new).drive = s.drive ∧ (s.enterMode new).brush0 = s.brush0 ∧ (s.enterMode new).brush1 = s.brush1 ∧
      (s.enterMode new).ration = s.ration ∧ (s.enterMode new).spray = s.spray ∧
      (s.enterMode new).tableOwn = s.tableOwn ∧ (s.enterMode new).peers = s.peers ∧ (s.enterMode new).link = s.link ∧
      (s.enterMode new).capture = s.capture ∧ (s.enterMode new).conv = s.conv ∧ (s.enterMode new).out = s.out ∧
      (s.enterMode new).pending = s.pending := by
  unfold State.enterMode; simp

@[simp] theorem State.convStandby_keeps (s : State) :
    s.convStandby.now = s.now ∧ s.convStandby.pins = s.pins ∧ s.convStandby.loader = s.loader ∧
      s.convStandby.drive = s.drive ∧ s.convStandby.brush0 = s.brush0 ∧ s.convStandby.brush1 = s.brush1 ∧
      s.convStandby.ration = s.ration ∧ s.convStandby.spray = s.spray ∧ s.convStandby.tableOwn = s.tableOwn ∧
      s.convStandby.peers = s.peers ∧ s.convStandby.link = s.link ∧ s.convStandby.ctl = s.ctl ∧
      s.convStandby.capture = s.capture ∧ s.convStandby.out = s.out ∧ s.convStandby.pending = s.pending := by
  unfold State.convStandby; simp

@[simp] theorem State.channelsStandby_keeps (s : State) :
    s.channelsStandby.now = s.now ∧ s.channelsStandby.pins = s.pins ∧ s.channelsStandby.loader = s.loader ∧
      s.channelsStandby.tableOwn = s.tableOwn ∧ s.channelsStandby.peers = s.peers ∧ s.channelsStandby.link = s.link ∧
      s.channelsStandby.capture = s.capture ∧ s.channelsStandby.conv = s.conv ∧
      s.channelsStandby.pending = s.pending := by
  unfold State.channelsStandby; simp

@[simp] theorem State.enterStandby_keeps (s : State) :
    s.enterStandby.now = s.now ∧ s.enterStandby.pins = s.pins ∧ s.enterStandby.loader = s.loader ∧
      s.enterStandby.tableOwn = s.tableOwn ∧ s.enterStandby.pending = s.pending := by
  unfold State.enterStandby; simp

@[simp] theorem State.leaveStandby_keeps (s : State) :
    s.leaveStandby.now = s.now ∧ s.leaveStandby.pins = s.pins ∧ s.leaveStandby.loader = s.loader ∧
      s.leaveStandby.ration = s.ration ∧ s.leaveStandby.tableOwn = s.tableOwn ∧ s.leaveStandby.peers = s.peers ∧
      s.leaveStandby.capture = s.capture ∧ s.leaveStandby.pending = s.pending := by
  unfold State.leaveStandby; dsimp only; split_ifs <;> simp

@[simp] theorem State.modeCheck_keeps (s : State) :
    s.modeCheck.now = s.now ∧ s.modeCheck.pins = s.pins ∧ s.modeCheck.loader = s.loader ∧
      s.modeCheck.tableOwn = s.tableOwn ∧ s.modeCheck.pending = s.pending := by
  unfold State.modeCheck; split <;> (try split_ifs) <;> simp

@[simp] theorem State.handCommand_keeps (s : State) (mask : Nat) (c : Command) :
    (s.handCommand mask c).now = s.now ∧ (s.handCommand mask c).pins = s.pins ∧
      (s.handCommand mask c).loader = s.loader ∧ (s.handCommand mask c).ration = s.ration ∧
      (s.handCommand mask c).tableOwn = s.tableOwn ∧ (s.handCommand mask c).peers = s.peers ∧
      (s.handCommand mask c).capture = s.capture ∧ (s.handCommand mask c).pending = s.pending := by
  unfold State.handCommand; split_ifs <;> simp

@[simp] theorem State.receiveCommand_keeps (s : State) (f : BusFrame) :
    (s.receiveCommand f).now = s.now ∧ (s.receiveCommand f).pins = s.pins ∧ (s.receiveCommand f).loader = s.loader ∧
      (s.receiveCommand f).ration = s.ration ∧ (s.receiveCommand f).tableOwn = s.tableOwn ∧
      (s.receiveCommand f).peers = s.peers ∧ (s.receiveCommand f).capture = s.capture ∧
      (s.receiveCommand f).pending = s.pending := by
  unfold State.receiveCommand; split <;> simp

@[simp] theorem State.popped_keeps (s : State) :
    s.popped.now = s.now ∧ s.popped.pins = s.pins ∧ s.popped.loader = s.loader ∧ s.popped.drive = s.drive ∧
      s.popped.brush0 = s.brush0 ∧ s.popped.brush1 = s.brush1 ∧ s.popped.ration = s.ration ∧
      s.popped.spray = s.spray ∧ s.popped.tableOwn = s.tableOwn ∧ s.popped.peers = s.peers ∧ s.popped.link = s.link ∧
      s.popped.capture = s.capture ∧ s.popped.conv = s.conv ∧ s.popped.out = s.out ∧
      s.popped.pending = s.pending := by
  unfold State.popped; simp

@[simp] theorem State.takeMode_keeps (s : State) (code : Byte) :
    (s.takeMode code).now = s.now ∧ (s.takeMode code).pins = s.pins ∧ (s.takeMode code).loader = s.loader ∧
      (s.takeMode code).drive = s.drive ∧ (s.takeMode code).brush0 = s.brush0 ∧ (s.takeMode code).brush1 = s.brush1 ∧
      (s.takeMode code).ration = s.ration ∧ (s.takeMode code).spray = s.spray ∧
      (s.takeMode code).tableOwn = s.tableOwn ∧ (s.takeMode code).peers = s.peers ∧ (s.takeMode code).link = s.link ∧
      (s.takeMode code).capture = s.capture ∧ (s.takeMode code).conv = s.conv ∧ (s.takeMode code).out = s.out ∧
      (s.takeMode code).pending = s.pending := by
  unfold State.takeMode; split <;> simp

@[simp] theorem State.takeClear_keeps (s : State) :
    s.takeClear.now = s.now ∧ s.takeClear.pins = s.pins ∧ s.takeClear.loader = s.loader ∧
      s.takeClear.ration = s.ration ∧ s.takeClear.tableOwn = s.tableOwn ∧ s.takeClear.peers = s.peers ∧
      s.takeClear.capture = s.capture ∧ s.takeClear.conv = s.conv ∧ s.takeClear.pending = s.pending := by
  unfold State.takeClear; simp

@[simp] theorem State.takeOther_keeps (s : State) (k : CmdKind) :
    (s.takeOther k).now = s.now ∧ (s.takeOther k).pins = s.pins ∧ (s.takeOther k).loader = s.loader ∧
      (s.takeOther k).ration = s.ration ∧ (s.takeOther k).tableOwn = s.tableOwn ∧ (s.takeOther k).peers = s.peers ∧
      (s.takeOther k).capture = s.capture ∧ (s.takeOther k).conv = s.conv ∧ (s.takeOther k).pending = s.pending := by
  unfold State.takeOther; split <;> simp

@[simp] theorem State.takeHead_keeps (s : State) :
    s.takeHead.now = s.now ∧ s.takeHead.pins = s.pins ∧ s.takeHead.loader = s.loader ∧ s.takeHead.ration = s.ration ∧
      s.takeHead.tableOwn = s.tableOwn ∧ s.takeHead.peers = s.peers ∧ s.takeHead.capture = s.capture ∧
      s.takeHead.conv = s.conv ∧ s.takeHead.pending = s.pending := by
  unfold State.takeHead; split <;> simp

@[simp] theorem State.takeHeadMode_keeps (s : State) :
    s.takeHeadMode.now = s.now ∧ s.takeHeadMode.pins = s.pins ∧ s.takeHeadMode.loader = s.loader ∧
      s.takeHeadMode.drive = s.drive ∧ s.takeHeadMode.brush0 = s.brush0 ∧ s.takeHeadMode.brush1 = s.brush1 ∧
      s.takeHeadMode.ration = s.ration ∧ s.takeHeadMode.spray = s.spray ∧ s.takeHeadMode.tableOwn = s.tableOwn ∧
      s.takeHeadMode.peers = s.peers ∧ s.takeHeadMode.link = s.link ∧ s.takeHeadMode.capture = s.capture ∧
      s.takeHeadMode.conv = s.conv ∧ s.takeHeadMode.out = s.out ∧ s.takeHeadMode.pending = s.pending := by
  unfold State.takeHeadMode; split <;> simp

@[simp] theorem State.startControl_keeps (s : State) (mode : Mode) (record : Option FaultCode) :
    (s.startControl mode record).now = s.now ∧ (s.startControl mode record).pins = s.pins ∧
      (s.startControl mode record).loader = s.loader ∧ (s.startControl mode record).drive = s.drive ∧
      (s.startControl mode record).brush0 = s.brush0 ∧ (s.startControl mode record).brush1 = s.brush1 ∧
      (s.startControl mode record).ration = s.ration ∧ (s.startControl mode record).spray = s.spray ∧
      (s.startControl mode record).tableOwn = s.tableOwn ∧ (s.startControl mode record).peers = s.peers ∧
      (s.startControl mode record).link = s.link ∧ (s.startControl mode record).capture = s.capture ∧
      (s.startControl mode record).conv = s.conv ∧ (s.startControl mode record).out = s.out ∧
      (s.startControl mode record).pending = s.pending := by
  unfold State.startControl; simp

@[simp] theorem State.startLink_keeps (s : State) :
    s.startLink.now = s.now ∧ s.startLink.pins = s.pins ∧ s.startLink.loader = s.loader ∧
      s.startLink.drive = s.drive ∧ s.startLink.brush0 = s.brush0 ∧ s.startLink.brush1 = s.brush1 ∧
      s.startLink.ration = s.ration ∧ s.startLink.spray = s.spray ∧ s.startLink.tableOwn = s.tableOwn ∧
      s.startLink.peers = s.peers ∧ s.startLink.ctl = s.ctl ∧ s.startLink.capture = s.capture ∧
      s.startLink.conv = s.conv ∧ s.startLink.out = s.out ∧ s.startLink.pending = s.pending := by
  unfold State.startLink; simp

@[simp] theorem State.startOutputs_keeps (s : State) :
    s.startOutputs.now = s.now ∧ s.startOutputs.pins = s.pins ∧ s.startOutputs.loader = s.loader ∧
      s.startOutputs.drive = s.drive ∧ s.startOutputs.brush0 = s.brush0 ∧ s.startOutputs.brush1 = s.brush1 ∧
      s.startOutputs.ration = s.ration ∧ s.startOutputs.spray = s.spray ∧ s.startOutputs.tableOwn = s.tableOwn ∧
      s.startOutputs.peers = s.peers ∧ s.startOutputs.link = s.link ∧ s.startOutputs.ctl = s.ctl ∧
      s.startOutputs.capture = s.capture ∧ s.startOutputs.conv = s.conv ∧ s.startOutputs.pending = s.pending := by
  unfold State.startOutputs; simp

@[simp] theorem State.startChannels_keeps (s : State) :
    s.startChannels.now = s.now ∧ s.startChannels.pins = s.pins ∧ s.startChannels.loader = s.loader ∧
      s.startChannels.ration = s.ration ∧ s.startChannels.tableOwn = s.tableOwn ∧ s.startChannels.peers = s.peers ∧
      s.startChannels.link = s.link ∧ s.startChannels.ctl = s.ctl ∧ s.startChannels.capture = s.capture ∧
      s.startChannels.conv = s.conv ∧ s.startChannels.out = s.out ∧ s.startChannels.pending = s.pending := by
  unfold State.startChannels; simp

@[simp] theorem State.endGood_keeps (s : State) (fields : List Byte) :
    (s.endGood fields).now = s.now ∧ (s.endGood fields).pins = s.pins ∧ (s.endGood fields).ration = s.ration ∧
      (s.endGood fields).capture = s.capture ∧ (s.endGood fields).conv = s.conv ∧
      (s.endGood fields).pending = s.pending := by
  unfold State.endGood; simp

@[simp] theorem State.endFailed_keeps (s : State) (code : FaultCode) :
    (s.endFailed code).now = s.now ∧ (s.endFailed code).pins = s.pins ∧ (s.endFailed code).drive = s.drive ∧
      (s.endFailed code).brush0 = s.brush0 ∧ (s.endFailed code).brush1 = s.brush1 ∧
      (s.endFailed code).ration = s.ration ∧ (s.endFailed code).spray = s.spray ∧
      (s.endFailed code).capture = s.capture ∧ (s.endFailed code).conv = s.conv ∧ (s.endFailed code).out = s.out ∧
      (s.endFailed code).pending = s.pending := by
  unfold State.endFailed; simp

@[simp] theorem State.endIllegal_keeps (s : State) :
    s.endIllegal.now = s.now ∧ s.endIllegal.pins = s.pins ∧ s.endIllegal.drive = s.drive ∧
      s.endIllegal.brush0 = s.brush0 ∧ s.endIllegal.brush1 = s.brush1 ∧ s.endIllegal.ration = s.ration ∧
      s.endIllegal.spray = s.spray ∧ s.endIllegal.tableOwn = s.tableOwn ∧ s.endIllegal.peers = s.peers ∧
      s.endIllegal.link = s.link ∧ s.endIllegal.capture = s.capture ∧ s.endIllegal.conv = s.conv ∧
      s.endIllegal.out = s.out ∧ s.endIllegal.pending = s.pending := by
  unfold State.endIllegal; simp

@[simp] theorem State.release_keeps (s : State) (straps : BitVec 4) :
    (s.release straps).now = s.now ∧ (s.release straps).pins = s.pins ∧ (s.release straps).drive = s.drive ∧
      (s.release straps).brush0 = s.brush0 ∧ (s.release straps).brush1 = s.brush1 ∧
      (s.release straps).ration = s.ration ∧ (s.release straps).spray = s.spray ∧
      (s.release straps).tableOwn = s.tableOwn ∧ (s.release straps).peers = s.peers ∧
      (s.release straps).link = s.link ∧ (s.release straps).capture = s.capture ∧ (s.release straps).out = s.out ∧
      (s.release straps).pending = s.pending := by
  unfold State.release; split <;> simp

@[simp] theorem State.takeStatus_keeps (s : State) (status : Byte) :
    (s.takeStatus status).now = s.now ∧ (s.takeStatus status).pins = s.pins ∧ (s.takeStatus status).drive = s.drive ∧
      (s.takeStatus status).brush0 = s.brush0 ∧ (s.takeStatus status).brush1 = s.brush1 ∧
      (s.takeStatus status).ration = s.ration ∧ (s.takeStatus status).spray = s.spray ∧
      (s.takeStatus status).tableOwn = s.tableOwn ∧ (s.takeStatus status).peers = s.peers ∧
      (s.takeStatus status).link = s.link ∧ (s.takeStatus status).ctl = s.ctl ∧
      (s.takeStatus status).capture = s.capture ∧ (s.takeStatus status).conv = s.conv ∧
      (s.takeStatus status).out = s.out ∧ (s.takeStatus status).pending = s.pending := by
  unfold State.takeStatus; simp

@[simp] theorem State.takeMarker_keeps (s : State) (b0 b1 length : Byte) :
    (s.takeMarker b0 b1 length).now = s.now ∧ (s.takeMarker b0 b1 length).pins = s.pins ∧
      (s.takeMarker b0 b1 length).drive = s.drive ∧ (s.takeMarker b0 b1 length).brush0 = s.brush0 ∧
      (s.takeMarker b0 b1 length).brush1 = s.brush1 ∧ (s.takeMarker b0 b1 length).ration = s.ration ∧
      (s.takeMarker b0 b1 length).spray = s.spray ∧ (s.takeMarker b0 b1 length).capture = s.capture ∧
      (s.takeMarker b0 b1 length).conv = s.conv ∧ (s.takeMarker b0 b1 length).out = s.out ∧
      (s.takeMarker b0 b1 length).pending = s.pending := by
  unfold State.takeMarker; split_ifs <;> simp

@[simp] theorem State.takeBlock_keeps (s : State) (fields : List Byte) (hi lo : Byte) :
    (s.takeBlock fields hi lo).now = s.now ∧ (s.takeBlock fields hi lo).pins = s.pins ∧
      (s.takeBlock fields hi lo).ration = s.ration ∧ (s.takeBlock fields hi lo).capture = s.capture ∧
      (s.takeBlock fields hi lo).conv = s.conv ∧ (s.takeBlock fields hi lo).pending = s.pending := by
  unfold State.takeBlock; split <;> simp

@[simp] theorem State.coilReport_keeps (s : State) (c : Coil) (code : FaultCode) :
    (s.coilReport c code).now = s.now ∧ (s.coilReport c code).pins = s.pins ∧
      (s.coilReport c code).loader = s.loader ∧ (s.coilReport c code).ration = s.ration ∧
      (s.coilReport c code).tableOwn = s.tableOwn ∧ (s.coilReport c code).peers = s.peers ∧
      (s.coilReport c code).link = s.link ∧ (s.coilReport c code).capture = s.capture ∧
      (s.coilReport c code).conv = s.conv ∧ (s.coilReport c code).pending = s.pending := by
  unfold State.coilReport; split <;> simp

@[simp] theorem State.diagnose_keeps (s : State) (c : Coil) (v : Nat) :
    (s.diagnose c v).now = s.now ∧ (s.diagnose c v).pins = s.pins ∧ (s.diagnose c v).loader = s.loader ∧
      (s.diagnose c v).ration = s.ration ∧ (s.diagnose c v).tableOwn = s.tableOwn ∧
      (s.diagnose c v).peers = s.peers ∧ (s.diagnose c v).link = s.link ∧ (s.diagnose c v).capture = s.capture ∧
      (s.diagnose c v).conv = s.conv ∧ (s.diagnose c v).pending = s.pending := by
  unfold State.diagnose; split_ifs <;> simp

@[simp] theorem State.afterSingle_keeps (s : State) (k : Slot) (v : Nat) :
    (s.afterSingle k v).now = s.now ∧ (s.afterSingle k v).pins = s.pins ∧ (s.afterSingle k v).loader = s.loader ∧
      (s.afterSingle k v).ration = s.ration ∧ (s.afterSingle k v).tableOwn = s.tableOwn ∧
      (s.afterSingle k v).peers = s.peers ∧ (s.afterSingle k v).link = s.link ∧
      (s.afterSingle k v).capture = s.capture ∧ (s.afterSingle k v).conv = s.conv ∧
      (s.afterSingle k v).pending = s.pending := by
  unfold State.afterSingle; split <;> (try split_ifs) <;> simp

@[simp] theorem State.single_keeps (s : State) (code : Byte) :
    (s.single code).now = s.now ∧ (s.single code).pins = s.pins ∧ (s.single code).loader = s.loader ∧
      (s.single code).ration = s.ration ∧ (s.single code).tableOwn = s.tableOwn ∧ (s.single code).peers = s.peers ∧
      (s.single code).link = s.link ∧ (s.single code).capture = s.capture ∧ (s.single code).pending = s.pending := by
  unfold State.single; split <;> simp

@[simp] theorem State.singleOrLate_keeps (s : State) (code : Byte) :
    (s.singleOrLate code).now = s.now ∧ (s.singleOrLate code).pins = s.pins ∧
      (s.singleOrLate code).loader = s.loader ∧ (s.singleOrLate code).ration = s.ration ∧
      (s.singleOrLate code).tableOwn = s.tableOwn ∧ (s.singleOrLate code).peers = s.peers ∧
      (s.singleOrLate code).link = s.link ∧ (s.singleOrLate code).capture = s.capture ∧
      (s.singleOrLate code).pending = s.pending := by
  unfold State.singleOrLate; split <;> simp

@[simp] theorem State.coarse_keeps (s : State) (code : Byte) :
    (s.coarse code).now = s.now ∧ (s.coarse code).pins = s.pins ∧ (s.coarse code).loader = s.loader ∧
      (s.coarse code).drive = s.drive ∧ (s.coarse code).brush0 = s.brush0 ∧ (s.coarse code).brush1 = s.brush1 ∧
      (s.coarse code).ration = s.ration ∧ (s.coarse code).spray = s.spray ∧ (s.coarse code).tableOwn = s.tableOwn ∧
      (s.coarse code).peers = s.peers ∧ (s.coarse code).link = s.link ∧ (s.coarse code).ctl = s.ctl ∧
      (s.coarse code).capture = s.capture ∧ (s.coarse code).out = s.out ∧ (s.coarse code).pending = s.pending := by
  unfold State.coarse; simp

@[simp] theorem State.fine_keeps (s : State) (code : Byte) :
    (s.fine code).now = s.now ∧ (s.fine code).pins = s.pins ∧ (s.fine code).loader = s.loader ∧
      (s.fine code).drive = s.drive ∧ (s.fine code).brush0 = s.brush0 ∧ (s.fine code).brush1 = s.brush1 ∧
      (s.fine code).ration = s.ration ∧ (s.fine code).spray = s.spray ∧ (s.fine code).tableOwn = s.tableOwn ∧
      (s.fine code).peers = s.peers ∧ (s.fine code).link = s.link ∧ (s.fine code).ctl = s.ctl ∧
      (s.fine code).capture = s.capture ∧ (s.fine code).out = s.out ∧ (s.fine code).pending = s.pending := by
  unfold State.fine; split <;> simp

@[simp] theorem State.pwmStart_keeps (s : State) (c : Coil) :
    (s.pwmStart c).now = s.now ∧ (s.pwmStart c).pins = s.pins ∧ (s.pwmStart c).loader = s.loader ∧
      (s.pwmStart c).brush0 = s.brush0 ∧ (s.pwmStart c).brush1 = s.brush1 ∧ (s.pwmStart c).ration = s.ration ∧
      (s.pwmStart c).spray = s.spray ∧ (s.pwmStart c).tableOwn = s.tableOwn ∧ (s.pwmStart c).peers = s.peers ∧
      (s.pwmStart c).link = s.link ∧ (s.pwmStart c).ctl = s.ctl ∧ (s.pwmStart c).capture = s.capture ∧
      (s.pwmStart c).conv = s.conv ∧ (s.pwmStart c).pending = s.pending := by
  unfold State.pwmStart; simp

end Sys2Proof.Machine
end

