-- ==== Sys2Proof/Laws/PerInstr.lean ====
section
/-! SUPPORT. What well-formedness of a command says of its operands, and, command by command, that it says so. -/

namespace Sys2Proof.Laws.Bounds

/-- The stations a command names (R96, R97). -/
def stations : Instr → List Nat
  | .freshExpiry _ n => [n]
  | .staleExpiry _ n => [n]
  | _ => []

/-- The frames a command brings (R112). -/
def frames : Instr → List BusFrame
  | .stateFrameReceived _ f => [f]
  | .commandFrameReceived _ f => [f]
  | .frameDiscard _ f => [f]
  | _ => []

/-- The runs of field bytes a command brings (R166, R174). -/
def blocks : Instr → List (List Byte)
  | .blockReadEnd _ l _ => [l]
  | _ => []

/-- The bits of the own frame a command names (R109, R110). -/
def frameBits : Instr → List Nat
  | .arbitrationLoss _ b => [b]
  | .bitError _ b => [b]
  | _ => []

/-- The counts of recessive bits a command brings (R108). -/
def recessives : Instr → List Nat
  | .busIdle _ _ n => [n]
  | _ => []

/-- The operands of a well-formed command are ones that the outside can bring. -/
def Statement (i : Instr) : Prop :=
  i.wellFormed = true →
    (∀ n ∈ stations i, 1 ≤ n ∧ n ≤ 14) ∧ (∀ f ∈ frames i, f.payload.length = f.length.toNat) ∧
      (∀ l ∈ blocks i, 245 ≤ l.length ∧ l.length ≤ 251) ∧ (∀ b ∈ frameBits i, b < 270) ∧ ∀ n ∈ recessives i, 1 ≤ n

/-- A command that brings none of these operands. -/
theorem of_none {i : Instr} (h : stations i = [] ∧ frames i = [] ∧ blocks i = [] ∧ frameBits i = [] ∧ recessives i = []) :
    Statement i := by
  intro _
  simp [h.1, h.2.1, h.2.2.1, h.2.2.2.1, h.2.2.2.2]

theorem resetAssert (m : Moment) : Statement (.resetAssert m) := of_none ⟨rfl, rfl, rfl, rfl, rfl⟩

theorem resetRelease (m : Moment) (straps : BitVec 4) : Statement (.resetRelease m straps) := of_none ⟨rfl, rfl, rfl, rfl, rfl⟩

theorem statusRequestAnswer (m : Moment) (status : Byte) : Statement (.statusRequestAnswer m status) := of_none ⟨rfl, rfl, rfl, rfl, rfl⟩

theorem statusWaitTimeout (m : Moment) : Statement (.statusWaitTimeout m) := of_none ⟨rfl, rfl, rfl, rfl, rfl⟩

theorem markerLengthCheck (m : Moment) (b0 b1 length : Byte) : Statement (.markerLengthCheck m b0 b1 length) := of_none ⟨rfl, rfl, rfl, rfl, rfl⟩

theorem blockReadEnd (m : Moment) (fields : List Byte) (crc : Byte × Byte) : Statement (.blockReadEnd m fields crc) := by
  intro h
  simp [Instr.wellFormed] at h
  simp [stations, frames, blocks, frameBits, recessives]
  omega

theorem driveStep (m : Moment) : Statement (.driveStep m) := of_none ⟨rfl, rfl, rfl, rfl, rfl⟩

theorem pedalOnset (m : Moment) : Statement (.pedalOnset m) := of_none ⟨rfl, rfl, rfl, rfl, rfl⟩

theorem pedalRecovery (m : Moment) : Statement (.pedalRecovery m) := of_none ⟨rfl, rfl, rfl, rfl, rfl⟩

theorem stopTimingEnd (m : Moment) : Statement (.stopTimingEnd m) := of_none ⟨rfl, rfl, rfl, rfl, rfl⟩

theorem turnCompletion (m : Moment) : Statement (.turnCompletion m) := of_none ⟨rfl, rfl, rfl, rfl, rfl⟩

theorem blindDetection (m : Moment) : Statement (.blindDetection m) := of_none ⟨rfl, rfl, rfl, rfl, rfl⟩

theorem brushStep (m : Moment) (first : Chan) : Statement (.brushStep m first) := of_none ⟨rfl, rfl, rfl, rfl, rfl⟩

theorem contactDetected (m : Moment) (first c : Chan) : Statement (.contactDetected m first c) := of_none ⟨rfl, rfl, rfl, rfl, rfl⟩

theorem descendTimeout (m : Moment) (first c : Chan) : Statement (.descendTimeout m first c) := of_none ⟨rfl, rfl, rfl, rfl, rfl⟩

theorem lossOfContact (m : Moment) (first c : Chan) : Statement (.lossOfContact m first c) := of_none ⟨rfl, rfl, rfl, rfl, rfl⟩

theorem starvation (m : Moment) (first c : Chan) : Statement (.starvation m first c) := of_none ⟨rfl, rfl, rfl, rfl, rfl⟩

theorem spinDownEnd (m : Moment) (first c : Chan) : Statement (.spinDownEnd m first c) := of_none ⟨rfl, rfl, rfl, rfl, rfl⟩

theorem raiseTimeout (m : Moment) (first c : Chan) : Statement (.raiseTimeout m first c) := of_none ⟨rfl, rfl, rfl, rfl, rfl⟩

theorem resume (m : Moment) (first c : Chan) : Statement (.resume m first c) := of_none ⟨rfl, rfl, rfl, rfl, rfl⟩

theorem trip (m : Moment) (first c : Chan) : Statement (.trip m first c) := of_none ⟨rfl, rfl, rfl, rfl, rfl⟩

theorem stall (m : Moment) (first c : Chan) : Statement (.stall m first c) := of_none ⟨rfl, rfl, rfl, rfl, rfl⟩

theorem overrunOnset (m : Moment) (first c : Chan) : Statement (.overrunOnset m first c) := of_none ⟨rfl, rfl, rfl, rfl, rfl⟩

theorem overrunClear (m : Moment) (first c : Chan) : Statement (.overrunClear m first c) := of_none ⟨rfl, rfl, rfl, rfl, rfl⟩

theorem overrunStanding (m : Moment) (first c : Chan) : Statement (.overrunStanding m first c) := of_none ⟨rfl, rfl, rfl, rfl, rfl⟩

theorem brushRecoveryDelayEnd (m : Moment) (first c : Chan) : Statement (.brushRecoveryDelayEnd m first c) := of_none ⟨rfl, rfl, rfl, rfl, rfl⟩

theorem rationCapOnset (m : Moment) (first : Chan) : Statement (.rationCapOnset m first) := of_none ⟨rfl, rfl, rfl, rfl, rfl⟩

theorem rationCapRelease (m : Moment) (first : Chan) : Statement (.rationCapRelease m first) := of_none ⟨rfl, rfl, rfl, rfl, rfl⟩

theorem sprayStep (m : Moment) : Statement (.sprayStep m) := of_none ⟨rfl, rfl, rfl, rfl, rfl⟩

theorem primeTimeEnd (m : Moment) : Statement (.primeTimeEnd m) := of_none ⟨rfl, rfl, rfl, rfl, rfl⟩

theorem standstillHoldEnd (m : Moment) : Statement (.standstillHoldEnd m) := of_none ⟨rfl, rfl, rfl, rfl, rfl⟩

theorem tankLowEmpty (m : Moment) : Statement (.tankLowEmpty m) := of_none ⟨rfl, rfl, rfl, rfl, rfl⟩

theorem refill (m : Moment) : Statement (.refill m) := of_none ⟨rfl, rfl, rfl, rfl, rfl⟩

theorem dryRun (m : Moment) : Statement (.dryRun m) := of_none ⟨rfl, rfl, rfl, rfl, rfl⟩

theorem sprayRecoveryDelayEnd (m : Moment) : Statement (.sprayRecoveryDelayEnd m) := of_none ⟨rfl, rfl, rfl, rfl, rfl⟩

theorem stateFrameReceived (m : Moment) (f : BusFrame) : Statement (.stateFrameReceived m f) := by
  intro h
  simp [Instr.wellFormed, BusFrame.wellFormed] at h
  simp [stations, frames, blocks, frameBits, recessives]
  omega

theorem freshExpiry (m : Moment) (station : Nat) : Statement (.freshExpiry m station) := by
  intro h
  simp [Instr.wellFormed, stationNumber] at h
  simp [stations, frames, blocks, frameBits, recessives]
  omega

theorem staleExpiry (m : Moment) (station : Nat) : Statement (.staleExpiry m station) := by
  intro h
  simp [Instr.wellFormed, stationNumber] at h
  simp [stations, frames, blocks, frameBits, recessives]
  omega

theorem commandFrameReceived (m : Moment) (f : BusFrame) : Statement (.commandFrameReceived m f) := by
  intro h
  simp [Instr.wellFormed, BusFrame.wellFormed] at h
  simp [stations, frames, blocks, frameBits, recessives]
  omega

theorem frameDiscard (m : Moment) (f : BusFrame) : Statement (.frameDiscard m f) := by
  intro h
  simp [Instr.wellFormed, BusFrame.wellFormed] at h
  simp [stations, frames, blocks, frameBits, recessives]
  omega

theorem periodTimerExpiry (m : Moment) : Statement (.periodTimerExpiry m) := of_none ⟨rfl, rfl, rfl, rfl, rfl⟩

theorem busIdleStart (m : Moment) : Statement (.busIdleStart m) := of_none ⟨rfl, rfl, rfl, rfl, rfl⟩

theorem arbitrationLoss (m : Moment) (bit : Nat) : Statement (.arbitrationLoss m bit) := by
  intro h
  simp [Instr.wellFormed] at h
  simp [stations, frames, blocks, frameBits, recessives]
  omega

theorem bitError (m : Moment) (bit : Nat) : Statement (.bitError m bit) := by
  intro h
  have hb : bit < 270 := of_decide_eq_true (Bool.and_eq_true_iff.mp h).2
  simp [stations, frames, blocks, frameBits, recessives, hb]

theorem sentToCompletion (m : Moment) : Statement (.sentToCompletion m) := of_none ⟨rfl, rfl, rfl, rfl, rfl⟩

theorem listenTimerEnd (m : Moment) : Statement (.listenTimerEnd m) := of_none ⟨rfl, rfl, rfl, rfl, rfl⟩

theorem clashQuietEnd (m : Moment) : Statement (.clashQuietEnd m) := of_none ⟨rfl, rfl, rfl, rfl, rfl⟩

theorem receiverWake (m : Moment) : Statement (.receiverWake m) := of_none ⟨rfl, rfl, rfl, rfl, rfl⟩

theorem wakeWindowEnd (m : Moment) : Statement (.wakeWindowEnd m) := of_none ⟨rfl, rfl, rfl, rfl, rfl⟩

theorem modeCheck (m : Moment) : Statement (.modeCheck m) := of_none ⟨rfl, rfl, rfl, rfl, rfl⟩

theorem warmupEnd (m : Moment) : Statement (.warmupEnd m) := of_none ⟨rfl, rfl, rfl, rfl, rfl⟩

theorem restTimerEnd (m : Moment) : Statement (.restTimerEnd m) := of_none ⟨rfl, rfl, rfl, rfl, rfl⟩

theorem ignitionTimerEnd (m : Moment) : Statement (.ignitionTimerEnd m) := of_none ⟨rfl, rfl, rfl, rfl, rfl⟩

theorem mode (m : Moment) : Statement (.mode m) := of_none ⟨rfl, rfl, rfl, rfl, rfl⟩

theorem direction (m : Moment) : Statement (.direction m) := of_none ⟨rfl, rfl, rfl, rfl, rfl⟩

theorem limit (m : Moment) : Statement (.limit m) := of_none ⟨rfl, rfl, rfl, rfl, rfl⟩

theorem brush (m : Moment) : Statement (.brush m) := of_none ⟨rfl, rfl, rfl, rfl, rfl⟩

theorem spray (m : Moment) : Statement (.spray m) := of_none ⟨rfl, rfl, rfl, rfl, rfl⟩

theorem clear (m : Moment) : Statement (.clear m) := of_none ⟨rfl, rfl, rfl, rfl, rfl⟩

theorem wake (m : Moment) : Statement (.wake m) := of_none ⟨rfl, rfl, rfl, rfl, rfl⟩

theorem windowTimerExpiry (m : Moment) (src : Counted) : Statement (.windowTimerExpiry m src) := of_none ⟨rfl, rfl, rfl, rfl, rfl⟩

theorem risingEdge (m : Moment) (input : Pulse) : Statement (.risingEdge m input) := of_none ⟨rfl, rfl, rfl, rfl, rfl⟩

theorem zeroRateTimeout (m : Moment) (input : Pulse) : Statement (.zeroRateTimeout m input) := of_none ⟨rfl, rfl, rfl, rfl, rfl⟩

theorem singleConversion (m : Moment) (code : Byte) : Statement (.singleConversion m code) := of_none ⟨rfl, rfl, rfl, rfl, rfl⟩

theorem coarseConversion (m : Moment) (code : Byte) : Statement (.coarseConversion m code) := of_none ⟨rfl, rfl, rfl, rfl, rfl⟩

theorem fineConversion (m : Moment) (code : Byte) : Statement (.fineConversion m code) := of_none ⟨rfl, rfl, rfl, rfl, rfl⟩

theorem pwmPeriodStart (m : Moment) (out : Coil) : Statement (.pwmPeriodStart m out) := of_none ⟨rfl, rfl, rfl, rfl, rfl⟩

theorem coilOpenDetect (m : Moment) (code : Byte) : Statement (.coilOpenDetect m code) := of_none ⟨rfl, rfl, rfl, rfl, rfl⟩

theorem supplyStart (m : Moment) (code : Byte) : Statement (.supplyStart m code) := of_none ⟨rfl, rfl, rfl, rfl, rfl⟩

theorem supplyRelease (m : Moment) (code : Byte) : Statement (.supplyRelease m code) := of_none ⟨rfl, rfl, rfl, rfl, rfl⟩

theorem busIdle (m : Moment) (restarted : Bool) (recessive : Nat) : Statement (.busIdle m restarted recessive) := by
  intro h
  simp [Instr.wellFormed] at h
  simp [stations, frames, blocks, frameBits, recessives]
  omega

theorem startBitTaken (m : Moment) : Statement (.startBitTaken m) := of_none ⟨rfl, rfl, rfl, rfl, rfl⟩

end Sys2Proof.Laws.Bounds
end

