-- ==== Sys2Proof/Laws/Records.lean ====
section
/-! SUPPORT. The fault list: what each operation on it makes of a source's record and of a source's count. -/

namespace Sys2Proof.Machine

/-! ### Records -/

/-- Finding a record after a change that leaves every record's source as it is. -/
theorem find_record_map (l : List Record) (f : Record → Record) (h : ∀ r, (f r).source = r.source) (src : Source) :
    (l.map f).find? (fun r => r.source == src) = (l.find? fun r => r.source == src).map f := by
  rw [List.find?_map]
  have : ((fun r : Record => r.source == src) ∘ f) = fun r => r.source == src := by
    funext r; simp only [Function.comp, h]
  rw [this]

/-- A source's record after a record was given its code and state (R135). -/
@[simp] theorem Controller.record_putRecord (x : Controller) (src src' : Source) (code : FaultCode) (st : RecordState) :
    (x.putRecord src code st).record src' =
      if src' = src then some { source := src, code := code, state := st } else x.record src' := by
  unfold Controller.putRecord Controller.record
  dsimp only
  split
  · rename_i h
    rw [find_record_map _ _ (by intro r; split <;> simp_all)]
    by_cases hs : src' = src
    · subst hs
      obtain ⟨r, hr, h⟩ := List.any_eq_true.mp h
      obtain ⟨q, hq⟩ := Option.isSome_iff_exists.mp (List.find?_isSome (p := fun r => r.source == src') |>.mpr ⟨r, hr, h⟩)
      have hq' := List.find?_some hq
      simp only [hq, Option.map_some, hq', if_true]
    · rw [if_neg hs]
      cases hq : x.faults.find? fun r => r.source == src'
      · rfl
      · have := List.find?_some hq
        have : ¬ (_ : Record).source = src := fun e => hs ((beq_iff_eq.mp this).symm.trans e)
        simp [this]
  · rename_i h
    rw [List.find?_append]
    by_cases hs : src' = src
    · subst hs
      have : x.faults.find? (fun r => r.source == src') = none := by
        rw [List.find?_eq_none]
        intro r hr hc
        exact h (List.any_eq_true.mpr ⟨r, hr, hc⟩)
      simp [this]
    · have : ¬ src = src' := fun e => hs e.symm
      simp [hs, this]

/-- A source's record after a record was removed. -/
@[simp] theorem Controller.record_dropRecord (x : Controller) (src src' : Source) :
    (x.dropRecord src).record src' = if src' = src then none else x.record src' := by
  unfold Controller.dropRecord Controller.record
  dsimp only
  rw [List.find?_filter]
  split
  · rename_i h
    rw [List.find?_eq_none]
    intro r _
    simp only [h]
    cases hr : r.source == src <;> simp [bne, hr]
  · rename_i h
    congr 1
    funext r
    by_cases hr : r.source = src'
    · have : ¬ src' = src := h
      simp [hr, this]
    · simp [hr]

/-- A source's record after an ACTIVE record was made RECOVERING (R136). -/
@[simp] theorem Controller.record_makeRecovering (x : Controller) (src src' : Source) :
    (x.makeRecovering src).record src' =
      (x.record src').map fun r =>
        if src' = src ∧ r.state = .active then { r with state := .recovering } else r := by
  unfold Controller.makeRecovering Controller.record
  dsimp only
  rw [find_record_map _ _ (by intro r; split <;> rfl)]
  cases hq : x.faults.find? fun r => r.source == src'
  · rfl
  · have := List.find?_some hq
    simp only [Option.map_some, beq_iff_eq.mp this, Bool.and_eq_true, beq_iff_eq]

/-- Another source's record is untouched when a RECOVERING record goes. -/
theorem Controller.record_removeRecovering_of_ne (x : Controller) {src src' : Source} (h : src' ≠ src) :
    (x.removeRecovering src).record src' = x.record src' := by
  unfold Controller.removeRecovering Controller.record
  dsimp only
  rw [List.find?_filter]
  congr 1
  funext r
  by_cases hr : r.source = src'
  · have : ¬ src' = src := h
    simp [hr, this]
  · simp [hr]

/-- A record that is not RECOVERING stands when its source asks for the removal of a RECOVERING one. -/
theorem Controller.record_removeRecovering_of_state (x : Controller) {src : Source} {r : Record}
    (h : x.record src = some r) (hr : r.state ≠ .recovering) : (x.removeRecovering src).record src = some r := by
  unfold Controller.removeRecovering Controller.record at *
  dsimp only
  rw [List.find?_filter]
  revert h
  induction x.faults with
  | nil => simp
  | cons a l ih =>
    simp only [List.find?_cons]
    cases ha : a.source == src
    · simpa using ih
    · intro h
      cases h
      simp [hr]

/-- With one record per source, a RECOVERING record is gone when its source asks for its removal (R136). -/
theorem Controller.record_removeRecovering (x : Controller) (hw : (x.faults.map Record.source).Nodup) {src : Source}
    (h : x.recordState src = some .recovering) : (x.removeRecovering src).record src = none := by
  unfold Controller.recordState Controller.record at h
  unfold Controller.removeRecovering Controller.record
  dsimp only
  rw [List.find?_filter]
  revert h hw
  induction x.faults with
  | nil => simp
  | cons a l ih =>
    simp only [List.find?_cons, List.map_cons, List.nodup_cons]
    cases ha : a.source == src
    · intro hw h
      simpa [ha] using ih hw.2 h
    · intro hw h
      simp only [Option.map_some, Option.some.injEq] at h
      have hs := beq_iff_eq.mp ha
      simp only [h, beq_self_eq_true, Bool.and_true, Bool.not_true, Bool.false_eq_true, false_and, decide_false]
      rw [List.find?_eq_none]
      intro r hr hc
      simp only [decide_eq_true_eq, beq_iff_eq] at hc
      exact hw.1 (List.mem_map.mpr ⟨r, hr, hc.2.trans hs.symm⟩)

/-! ### The rest of the mode controller -/

@[simp] theorem Controller.putRecord_keeps (x : Controller) (src : Source) (code : FaultCode) (st : RecordState) :
    (x.putRecord src code st).mode = x.mode ∧ (x.putRecord src code st).standbyReturn = x.standbyReturn ∧
      (x.putRecord src code st).ignitionTimer = x.ignitionTimer ∧
      (x.putRecord src code st).warmupTimer = x.warmupTimer ∧ (x.putRecord src code st).restTimer = x.restTimer ∧
      (x.putRecord src code st).queue = x.queue ∧ (x.putRecord src code st).overrun = x.overrun ∧
      (x.putRecord src code st).discard = x.discard ∧ (x.putRecord src code st).requested = x.requested ∧
      (x.putRecord src code st).limit = x.limit ∧ (x.putRecord src code st).select0 = x.select0 ∧
      (x.putRecord src code st).select1 = x.select1 ∧ (x.putRecord src code st).sprayOn = x.sprayOn ∧
      (x.putRecord src code st).sprayRate = x.sprayRate ∧ (x.putRecord src code st).contrib = x.contrib ∧
      (x.putRecord src code st).ownCap = x.ownCap ∧ (x.putRecord src code st).silentCount = x.silentCount ∧
      (x.putRecord src code st).linkCount = x.linkCount ∧ (x.putRecord src code st).brush0Count = x.brush0Count ∧
      (x.putRecord src code st).brush1Count = x.brush1Count ∧
      (x.putRecord src code st).sprayCount = x.sprayCount := by
  unfold Controller.putRecord; dsimp only; split <;> simp
@[simp] theorem Controller.dropRecord_keeps (x : Controller) (src : Source) :
    (x.dropRecord src).mode = x.mode ∧ (x.dropRecord src).standbyReturn = x.standbyReturn ∧
      (x.dropRecord src).ignitionTimer = x.ignitionTimer ∧ (x.dropRecord src).warmupTimer = x.warmupTimer ∧
      (x.dropRecord src).restTimer = x.restTimer ∧ (x.dropRecord src).queue = x.queue ∧
      (x.dropRecord src).overrun = x.overrun ∧ (x.dropRecord src).discard = x.discard ∧
      (x.dropRecord src).requested = x.requested ∧ (x.dropRecord src).limit = x.limit ∧
      (x.dropRecord src).select0 = x.select0 ∧ (x.dropRecord src).select1 = x.select1 ∧
      (x.dropRecord src).sprayOn = x.sprayOn ∧ (x.dropRecord src).sprayRate = x.sprayRate ∧
      (x.dropRecord src).contrib = x.contrib ∧ (x.dropRecord src).ownCap = x.ownCap ∧
      (x.dropRecord src).silentCount = x.silentCount ∧ (x.dropRecord src).linkCount = x.linkCount ∧
      (x.dropRecord src).brush0Count = x.brush0Count ∧ (x.dropRecord src).brush1Count = x.brush1Count ∧
      (x.dropRecord src).sprayCount = x.sprayCount := by
  simp [Controller.dropRecord]
@[simp] theorem Controller.makeRecovering_keeps (x : Controller) (src : Source) :
    (x.makeRecovering src).mode = x.mode ∧ (x.makeRecovering src).standbyReturn = x.standbyReturn ∧
      (x.makeRecovering src).ignitionTimer = x.ignitionTimer ∧ (x.makeRecovering src).warmupTimer = x.warmupTimer ∧
      (x.makeRecovering src).restTimer = x.restTimer ∧ (x.makeRecovering src).queue = x.queue ∧
      (x.makeRecovering src).overrun = x.overrun ∧ (x.makeRecovering src).discard = x.discard ∧
      (x.makeRecovering src).requested = x.requested ∧ (x.makeRecovering src).limit = x.limit ∧
      (x.makeRecovering src).select0 = x.select0 ∧ (x.makeRecovering src).select1 = x.select1 ∧
      (x.makeRecovering src).sprayOn = x.sprayOn ∧ (x.makeRecovering src).sprayRate = x.sprayRate ∧
      (x.makeRecovering src).contrib = x.contrib ∧ (x.makeRecovering src).ownCap = x.ownCap ∧
      (x.makeRecovering src).silentCount = x.silentCount ∧ (x.makeRecovering src).linkCount = x.linkCount ∧
      (x.makeRecovering src).brush0Count = x.brush0Count ∧ (x.makeRecovering src).brush1Count = x.brush1Count ∧
      (x.makeRecovering src).sprayCount = x.sprayCount := by
  simp [Controller.makeRecovering]
@[simp] theorem Controller.removeRecovering_keeps (x : Controller) (src : Source) :
    (x.removeRecovering src).mode = x.mode ∧ (x.removeRecovering src).standbyReturn = x.standbyReturn ∧
      (x.removeRecovering src).ignitionTimer = x.ignitionTimer ∧
      (x.removeRecovering src).warmupTimer = x.warmupTimer ∧ (x.removeRecovering src).restTimer = x.restTimer ∧
      (x.removeRecovering src).queue = x.queue ∧ (x.removeRecovering src).overrun = x.overrun ∧
      (x.removeRecovering src).discard = x.discard ∧ (x.removeRecovering src).requested = x.requested ∧
      (x.removeRecovering src).limit = x.limit ∧ (x.removeRecovering src).select0 = x.select0 ∧
      (x.removeRecovering src).select1 = x.select1 ∧ (x.removeRecovering src).sprayOn = x.sprayOn ∧
      (x.removeRecovering src).sprayRate = x.sprayRate ∧ (x.removeRecovering src).contrib = x.contrib ∧
      (x.removeRecovering src).ownCap = x.ownCap ∧ (x.removeRecovering src).silentCount = x.silentCount ∧
      (x.removeRecovering src).linkCount = x.linkCount ∧ (x.removeRecovering src).brush0Count = x.brush0Count ∧
      (x.removeRecovering src).brush1Count = x.brush1Count ∧ (x.removeRecovering src).sprayCount = x.sprayCount := by
  simp [Controller.removeRecovering]
@[simp] theorem Controller.setRecovery_keeps (x : Controller) (k : Counted) (v : Recovery) :
    (x.setRecovery k v).mode = x.mode ∧ (x.setRecovery k v).standbyReturn = x.standbyReturn ∧
      (x.setRecovery k v).ignitionTimer = x.ignitionTimer ∧ (x.setRecovery k v).warmupTimer = x.warmupTimer ∧
      (x.setRecovery k v).restTimer = x.restTimer ∧ (x.setRecovery k v).queue = x.queue ∧
      (x.setRecovery k v).overrun = x.overrun ∧ (x.setRecovery k v).discard = x.discard ∧
      (x.setRecovery k v).requested = x.requested ∧ (x.setRecovery k v).limit = x.limit ∧
      (x.setRecovery k v).select0 = x.select0 ∧ (x.setRecovery k v).select1 = x.select1 ∧
      (x.setRecovery k v).sprayOn = x.sprayOn ∧ (x.setRecovery k v).sprayRate = x.sprayRate ∧
      (x.setRecovery k v).contrib = x.contrib ∧ (x.setRecovery k v).ownCap = x.ownCap ∧
      (x.setRecovery k v).silentCount = x.silentCount ∧ (x.setRecovery k v).faults = x.faults := by
  cases k <;> simp [Controller.setRecovery]
@[simp] theorem Controller.zeroCount_keeps (x : Controller) (k : Counted) :
    (x.zeroCount k).mode = x.mode ∧ (x.zeroCount k).standbyReturn = x.standbyReturn ∧
      (x.zeroCount k).ignitionTimer = x.ignitionTimer ∧ (x.zeroCount k).warmupTimer = x.warmupTimer ∧
      (x.zeroCount k).restTimer = x.restTimer ∧ (x.zeroCount k).queue = x.queue ∧
      (x.zeroCount k).overrun = x.overrun ∧ (x.zeroCount k).discard = x.discard ∧
      (x.zeroCount k).requested = x.requested ∧ (x.zeroCount k).limit = x.limit ∧
      (x.zeroCount k).select0 = x.select0 ∧ (x.zeroCount k).select1 = x.select1 ∧
      (x.zeroCount k).sprayOn = x.sprayOn ∧ (x.zeroCount k).sprayRate = x.sprayRate ∧
      (x.zeroCount k).contrib = x.contrib ∧ (x.zeroCount k).ownCap = x.ownCap ∧
      (x.zeroCount k).silentCount = x.silentCount ∧ (x.zeroCount k).faults = x.faults := by
  cases k <;> simp [Controller.zeroCount, Controller.setRecovery]

/-! ### Counts -/

/-- A source's count and window after a source's were replaced (R136). -/
@[simp] theorem Controller.recovery_setRecovery (x : Controller) (k j : Counted) (v : Recovery) :
    (x.setRecovery k v).recovery j = if j = k then v else x.recovery j := by cases k <;> cases j <;> rfl

/-- Counts and records do not touch each other. -/
@[simp] theorem Controller.recovery_putRecord (x : Controller) (src : Source) (code : FaultCode) (st : RecordState)
    (k : Counted) : (x.putRecord src code st).recovery k = x.recovery k := by
  unfold Controller.putRecord; dsimp only; split <;> cases k <;> rfl
@[simp] theorem Controller.recovery_dropRecord (x : Controller) (src : Source) (k : Counted) :
    (x.dropRecord src).recovery k = x.recovery k := by cases k <;> rfl
@[simp] theorem Controller.recovery_makeRecovering (x : Controller) (src : Source) (k : Counted) :
    (x.makeRecovering src).recovery k = x.recovery k := by cases k <;> rfl
@[simp] theorem Controller.recovery_removeRecovering (x : Controller) (src : Source) (k : Counted) :
    (x.removeRecovering src).recovery k = x.recovery k := by cases k <;> rfl
@[simp] theorem Controller.record_setRecovery (x : Controller) (k : Counted) (v : Recovery) (src : Source) :
    (x.setRecovery k v).record src = x.record src := by cases k <;> rfl
@[simp] theorem Controller.record_zeroCount (x : Controller) (k : Counted) (src : Source) :
    (x.zeroCount k).record src = x.record src := by simp [Controller.zeroCount]

/-! ### What the operations leave of the rest of the mode controller -/

/-- Records and counts are all that an operation on the fault list touches: the other fields stay. -/
@[simp] theorem Controller.bare_putRecord (x : Controller) (src : Source) (code : FaultCode) (st : RecordState) :
    (x.putRecord src code st).bare = x.bare := by unfold Controller.putRecord; dsimp only; split <;> rfl
@[simp] theorem Controller.bare_dropRecord (x : Controller) (src : Source) : (x.dropRecord src).bare = x.bare := rfl
@[simp] theorem Controller.bare_makeRecovering (x : Controller) (src : Source) : (x.makeRecovering src).bare = x.bare := rfl
@[simp] theorem Controller.bare_removeRecovering (x : Controller) (src : Source) : (x.removeRecovering src).bare = x.bare :=
  rfl
/-- Two mode controllers that agree but for the fault list and the figures that follow have the same settings, mode and
timers. -/
theorem Controller.bare_eq {x y : Controller} (h : x.bare = y.bare) :
    x.mode = y.mode ∧ x.standbyReturn = y.standbyReturn ∧ x.ignitionTimer = y.ignitionTimer ∧
      x.warmupTimer = y.warmupTimer ∧ x.restTimer = y.restTimer ∧ x.queue = y.queue ∧ x.overrun = y.overrun ∧
      x.discard = y.discard ∧ x.requested = y.requested ∧ x.limit = y.limit ∧ x.select0 = y.select0 ∧
      x.select1 = y.select1 ∧ x.sprayOn = y.sprayOn ∧ x.sprayRate = y.sprayRate ∧ x.linkCount = y.linkCount ∧
      x.brush0Count = y.brush0Count ∧ x.brush1Count = y.brush1Count ∧ x.sprayCount = y.sprayCount := by
  cases x; cases y; simp only [Controller.bare, Controller.mk.injEq] at h ⊢; simp_all

/-! ### Posting (R135) -/

/-- What the common latching rule makes of a posting: the record's state, the record, and the source's count and window. -/
theorem Controller.post_spec (x : Controller) (now : Micros) (k : Counted) (code : FaultCode) :
    ∃ st n, x.post now k code =
        ((x.setRecovery k { count := n, window := some now }).putRecord (sourceOf k) code st, st) ∧
      ((x.recordState (sourceOf k) = some .active ∧ st = .active ∧ n = (x.recovery k).count) ∨
       (x.recordState (sourceOf k) = some .latched ∧ st = .latched ∧ n = (x.recovery k).count) ∨
       ((x.recordState (sourceOf k) = none ∨ x.recordState (sourceOf k) = some .recovering) ∧
         ((3 ≤ (x.recovery k).count ∧ st = .latched ∧ n = (x.recovery k).count) ∨
          ((x.recovery k).count < 3 ∧ st = .active ∧ n = (x.recovery k).count + 1)))) := by
  unfold Controller.post
  dsimp only
  split
  · exact ⟨_, _, rfl, .inl ⟨‹_›, rfl, rfl⟩⟩
  · exact ⟨_, _, rfl, .inr (.inl ⟨‹_›, rfl, rfl⟩)⟩
  · split
    · exact ⟨_, _, rfl, .inr (.inr ⟨.inl ‹_›, .inl ⟨‹_›, rfl, rfl⟩⟩)⟩
    · exact ⟨_, _, rfl, .inr (.inr ⟨.inl ‹_›, .inr ⟨Nat.lt_of_not_le ‹_›, rfl, rfl⟩⟩)⟩
  · split
    · exact ⟨_, _, rfl, .inr (.inr ⟨.inr ‹_›, .inl ⟨‹_›, rfl, rfl⟩⟩)⟩
    · exact ⟨_, _, rfl, .inr (.inr ⟨.inr ‹_›, .inr ⟨Nat.lt_of_not_le ‹_›, rfl, rfl⟩⟩)⟩

end Sys2Proof.Machine
end

