-- ==== Sys2Proof/Laws/Take.lean ====
section
/-! SUPPORT. What the takes of R132 do to the queue of commands: each removes the head, and after those that are due no takeable
entry is left. -/

namespace Sys2Proof.Machine

@[simp] theorem State.finish_ctl_queue (b : LinkState) (s : State) : (s.finish b).ctl.queue = s.ctl.queue := by
  unfold State.finish
  dsimp only
  split <;> rfl

@[simp] theorem State.postPedal_ctl_queue (s : State) : s.postPedal.ctl.queue = s.ctl.queue := by
  unfold State.postPedal; split_ifs <;> simp

@[simp] theorem State.driveClear_ctl_queue (s : State) : s.driveClear.ctl.queue = s.ctl.queue := by
  unfold State.driveClear; dsimp only; split_ifs <;> simp

@[simp] theorem State.brushClear_ctl_queue (s : State) (c : Chan) : (s.brushClear c).ctl.queue = s.ctl.queue := by
  unfold State.brushClear; dsimp only; split_ifs <;> simp

@[simp] theorem State.sprayClear_ctl_queue (s : State) : s.sprayClear.ctl.queue = s.ctl.queue := by
  unfold State.sprayClear; dsimp only; split_ifs <;> simp

@[simp] theorem State.linkClear_ctl_queue (s : State) : s.linkClear.ctl.queue = s.ctl.queue := by
  unfold State.linkClear; split_ifs <;> simp

@[simp] theorem Controller.zeroOthers_queue (x : Controller) : x.zeroOthers.queue = x.queue := by
  have h : ∀ (l : List Counted) (y : Controller), y.queue = x.queue →
      (l.foldl (fun y k => if x.recordState (sourceOf k) = some .latched then y else y.zeroCount k) y).queue = x.queue := by
    intro l
    induction l with
    | nil => exact fun _ h => h
    | cons k l ih => intro y hy; simp only [List.foldl_cons]; refine ih _ ?_; split <;> simp [hy]
  exact h _ _ rfl

@[simp] theorem State.takeOther_ctl_queue (s : State) (k : CmdKind) : (s.takeOther k).ctl.queue = s.ctl.queue := by
  unfold State.takeOther State.takeClear; split <;> simp

@[simp] theorem State.enterMode_ctl_queue (s : State) (new : Mode) : (s.enterMode new).ctl.queue = s.ctl.queue := rfl

@[simp] theorem State.takeMode_ctl_queue (s : State) (code : Byte) : (s.takeMode code).ctl.queue = s.ctl.queue := by
  unfold State.takeMode; split <;> simp

@[simp] theorem State.popped_ctl_queue (s : State) : s.popped.ctl.queue = s.ctl.queue.drop 1 := rfl

/-- A take removes the head of the queue and nothing else of it (R132). -/
theorem State.takeOne_ctl_queue {s : State} (h : s.takeable = true) : s.takeOne.ctl.queue = s.ctl.queue.drop 1 := by
  obtain ⟨hm, e⟩ | ⟨k, hk, e⟩ := State.takeOne_cases h <;> rw [e, State.finish_ctl_queue]
  · obtain ⟨c, hc⟩ := Option.isSome_iff_exists.mp hm
    simp [State.takeHeadMode, hc]
  · unfold State.headIs at hk
    cases ho : s.headOther <;> simp_all [State.takeHead]

/-- Where an entry is takeable, the queue has a head. -/
theorem State.takeable_queue {s : State} (h : s.takeable = true) : s.ctl.queue ≠ [] := by
  intro hq
  have : s.ctl.head = none := by simp [Controller.head, hq]
  simp [State.takeable, State.headMode, State.headOther, this] at h

/-- With as many takes as entries, none is left that is takeable. -/
theorem State.takes_not_takeable (n : Nat) {s : State} (h : s.ctl.queue.length ≤ n) :
    (s.takes n).takeable = false := by
  induction n generalizing s with
  | zero =>
    cases ht : s.takeable
    · simpa [State.takes] using ht
    · exact absurd (List.eq_nil_of_length_eq_zero (Nat.le_zero.mp h)) (State.takeable_queue ht)
  | succ n ih =>
    unfold State.takes
    cases ht : s.takeable
    · simp [ht]
    · simp only [if_true]
      refine ih ?_
      rw [State.takeOne_ctl_queue ht, List.length_drop]
      omega

/-- After the takes that are due, no takeable entry is left at the head (R132). -/
theorem State.takeDue_not_takeable (s : State) : s.takeDue.takeable = false := s.takes_not_takeable _ (Nat.le_refl _)

/-- The takes that are due are one take, and then those that are due (R132). -/
theorem State.takeDue_of_takeable {s : State} (h : s.takeable = true) : s.takeDue = s.takeOne.takeDue := by
  unfold State.takeDue
  rw [State.takeOne_ctl_queue h, List.length_drop]
  have hq := State.takeable_queue h
  cases hl : s.ctl.queue with
  | nil => exact absurd hl hq
  | cons c rest => simp [State.takes, h]

/-- The row of a kind of command takes its head alone, if no time passes to it or no other entry is takeable then (R132). -/
theorem State.takeEvent_alone {s : State} {m : Moment} {due : State → Bool} (h : due s = true) (ht : s.takeable = true)
    (ha : s.takesAlone m) : s.takeEvent m due = s.takeOne.arrive m := by
  by_cases h0 : m.dt = 0
  · exact State.takeEvent_due h h0
  · rw [State.takeEvent_late h0, State.takeDue_of_takeable ht, State.takeDue_of_not_takeable (ha.resolve_left h0)]

end Sys2Proof.Machine
end

