-- ==== Sys2Proof/Tests/Slice0.lean ====
section
/-! SUPPORT. Small tests: a smoke test of the checks of WellFormed, worked figures of the manual on single operations and single
commands, and, for every statement that has hypotheses, a named theorem `witness_…` that shows a state and operands that meet them
together (at the boundary values where clauses meet). -/

open Sys2Proof Sys2Proof.Machine

namespace Sys2Proof.Tests

/-! ### A small station -/

/-- The switched inputs with the ignition on and nothing else. -/
def keyOn : Pins :=
  { armUp0 := false, armUp1 := false, armDown0 := false, armDown1 := false, ignition := true, wheelB := false }

/-- At once, the key on. -/
def now0 : Moment := { dt := 0, pins := keyOn }

/-- At once, the key off. -/
def keyOff : Moment := { dt := 0, pins := { keyOn with ignition := false } }

/-- A schedule of two points, the main broom's motor, in PRESSURE contact mode with a TRIP limit. -/
def broom : BrushCfg :=
  { enable := 1, contactMode := 0, limitMode := 0, vm := 200, etaM := 900, blindRpm := 100, contactLevel := 600,
    lossLevel := 400, tContact := 200, tLoss := 1000, descendTimeout := 6000, raiseTimeout := 4000, spinDown := 1000,
    pLim := 1800, tTrip := 300, tHoldMax := 5000, valveOffset := 100, valveGain := 300, pulses := 6, span := 2500,
    zeroTimeout := 500, pointCount := 3, points := [(0, 100), (1000, 135), (2000, 160)] }

/-- The default values of 10.5, with the pedal calibration of 01's example and every channel enabled. -/
def image : Image :=
  { general :=
      { periodCode := 2, expected := [5, 9], staleCap := 300, warmup := 2000, voltage := 0, fallbackBudget := 150 }
    drive :=
      { enable := 1, tooth := 15000, transportCap := 2500, sweepCap := 1200, reverseRatio := 40, aUp := 5, aDn := 10,
        aStop := 40, kp := 200, ki := 50, iMax := 100, uMin := 150, paceFull := 3000, creepDuty := 300, aLo := 400,
        aHi := 3600, bLo := 500, bHi := 3700, tolerance := 100, deadLo := 50, deadHi := 950, enginePulses := 60,
        va := 28, etaA := 900, boostThreshold := 900, boostHold := 3000, wheelTimeout := 500, engineTimeout := 500 }
    brush0 := broom
    brush1 := { broom with limitMode := 1, spinDown := 0 }
    spray :=
      { enable := 1, rate := 20, drySweep := 0, dustCap := 600, qMin := 1000, qMax := 30000, pumpOffset := 120,
        pumpGain := 400, pulsesPerLitre := 450, tankLow := 10, standstillHold := 2000, primeTime := 1000,
        flowTimeout := 1000
        groups :=
          [{ enabled := 1, width := 120, kind := 0, station := 1, channel := 0 },
           { enabled := 1, width := 120, kind := 1, station := 1, channel := 0 },
           { enabled := 1, width := 80, kind := 2, station := 5, channel := 0 },
           { enabled := 0, width := 80, kind := 2, station := 5, channel := 1 }] }
    driveF := { period := 50, openLevel := 200, shortLevel := 3000 }
    driveR := { period := 50, openLevel := 200, shortLevel := 3000 }
    valve0 := { period := 50, openLevel := 200, shortLevel := 3000 }
    valve1 := { period := 50, openLevel := 200, shortLevel := 3000 }
    pump := { period := 50, openLevel := 200, shortLevel := 3000 } }

/-- A VALID entry. -/
def valid (v : Nat) : Entry := { value := v, status := .valid }

/-- A proportional output whose period started 5 ms before 100 s. -/
def coilOn (duty : Nat) : CoilOut :=
  { CoilOut.reset with shadow := duty, duty := duty, start := some 99995000, running := true }

/-- The record of station 5: FRESH, heard at 99940000 µs with a period of 20 ms. -/
def peer5 : Peer :=
  { station := 5, fresh := .fresh, expected := true, period := some 20, age := some 99940000
    fields := some
      { cap := 1200, claim := false, pace := none, budget := none, demand := some 223
        reports := [{ channel := 0, state := 2, overrun := false, starved := false }] } }

/-- Station 2 in SWEEP at 100 s, before what follows from its state is set: every channel enabled and at rest, the pedal up, the
tank at 60 %, the supply at 12.8 V, station 5 heard and station 9 silent. -/
def bare : State :=
  { State.reset with
    now := 100000000
    pins := keyOn
    loader := { Loader.reset with resetHeld := false, state := .done, outcome := .good, station := 2, image := some image }
    drive := { Drive.reset with state := .standstill, engaged := .fwd }
    brush0 := { Brush.reset with state := .stowed }
    brush1 := { Brush.reset with state := .stowed }
    spray := { Spray.reset with state := .off, level := 60 }
    tableOwn := some 2
    peers := State.reset.peers.map fun p =>
      if p.station = 5 then peer5
      else if p.station = 9 then { p with expected := true, fresh := .silent } else p
    link := { Link.reset with state := .active, periodTimer := some 99980000, receiver := .idle, recessive := 11 }
    ctl := { Controller.reset with mode := .sweep, requested := .fwd, sprayOn := true, select0 := true, select1 := true }
    conv :=
      { pedalA := valid 400, pedalB := valid 3700, press0 := valid 1000, press1 := valid 1000, tank := valid 2464,
        supply := valid 1280, senseDF := valid 0, senseDR := valid 0, senseB0 := valid 0, senseB1 := valid 0,
        sensePump := valid 0, place := some .pedalA, coarse := none }
    out :=
      { Outputs.reset with
        driveF := coilOn 0, driveR := coilOn 0, brush0 := coilOn 0, brush1 := coilOn 0, pump := coilOn 0 } }

/-- The same with what follows from its state set. -/
def ready : State := bare.settle

/-- The state after a command. -/
def after (i : Instr) (s : State) : State :=
  match exec i s with
  | .next t => t
  | .fault _ => s
  | .refused _ => s

theorem ready_settled : ready.Settled := bare.settle_settled

theorem ready_out : ready.out.Wf := ⟨by decide, by decide, by decide, fun h => absurd h (by decide)⟩

theorem ready_peers : ready.PeersWf := ⟨by decide, by decide, by decide⟩

/-! ### The checks of WellFormed: an ill-formed command for each -/

/-- A frame whose payload is one byte shorter than its length says. -/
def shortFrame : BusFrame :=
  { cls := 1#2, station := 5#4, length := 7#8, payload := [0#8, 0#8, 0#8, 0#8, 0#8, 0#8], crc := 0#16, endField := 127#7 }

theorem test_state_frame_needs_its_length : (Instr.stateFrameReceived now0 shortFrame).wellFormed = false := by decide

theorem test_command_frame_needs_its_length : (Instr.commandFrameReceived now0 shortFrame).wellFormed = false := by decide

theorem test_discarded_frame_needs_its_length : (Instr.frameDiscard now0 shortFrame).wellFormed = false := by decide

theorem test_fresh_expiry_needs_a_station : (Instr.freshExpiry now0 15).wellFormed = false := by decide

theorem test_stale_expiry_needs_a_station : (Instr.staleExpiry now0 0).wellFormed = false := by decide

theorem test_arbitration_ends_with_bit_6 : (Instr.arbitrationLoss now0 7).wellFormed = false := by decide

theorem test_bit_error_comes_after_arbitration :
    (Instr.bitError now0 6).wellFormed = false ∧ (Instr.bitError now0 270).wellFormed = false := by decide

theorem test_bus_idle_shows_a_bit : (Instr.busIdle now0 true 0).wellFormed = false := by decide

theorem test_block_needs_its_fixed_part :
    (Instr.blockReadEnd now0 [0x02#8, 0x00#8] (0#8, 0#8)).wellFormed = false := by decide

/-! ### Worked figures on single operations -/

/-- 08, "Worked conversions": four passes on PRESS0, and the tank codes 26, 25 and 5. -/
theorem test_worked_conversions :
    fineEntry .press0Fine 100 108 = { value := 1604, status := .valid } ∧
      fineEntry .press0Fine 100 255 = { value := 1600, status := .settling } ∧
      fineEntry .press0Fine 8 40 = { value := 120, status := .valid } ∧
      fineEntry .press0Fine 252 230 = { value := 4018, status := .outOfRange } ∧
      tankLevel (singleEntry .tank 26#8).value = 10 ∧ tankLevel (singleEntry .tank 25#8).value = 9 ∧
      (singleEntry .tank 5#8).status = .outOfRange := by decide

/-- 01, "A pedal reading, worked": a = 2800 and b = 1296 give p′ = 777. -/
theorem test_worked_pedal :
    trackA image.drive 2800 = 750 ∧ trackB image.drive 1296 = 751 ∧ deadBand image.drive ((750 + 751) / 2) = 777 := by
  decide

/-- 01, "A drive step, worked": r = 754, I = 1250, v = 740 give I = 1257 and a raw output of 377. -/
theorem test_worked_duty : dutyStage image.drive false 754 740 1250 377 = (377, 1257, 377) := by decide

/-- 03, section 3.7: a budget of 453 for a demand of 720 gives a ratio of 629 and a ration cap of 754. -/
theorem test_worked_ration : flowRatio 453 720 = 629 ∧ 1200 * flowRatio 453 720 / 1000 = 754 := by decide

/-- 12: at pace 0 the broom demands 223 at 100 rpm, at pace 1000 it demands 300 at 135 rpm; 802 lies between two points. -/
theorem test_worked_schedule :
    flowDemand broom (scheduleRpm broom.points 0) = 223 ∧ flowDemand broom (scheduleRpm broom.points 1000) = 300 ∧
      scheduleRpm broom.points 900 = 131 ∧ scheduleRpm broom.points 2500 = 160 := by decide

/-- 04, section 4.11: W 240 at a pace of 1000 gives Q = 8000 and a pump duty of 440. -/
theorem test_worked_spray :
    flowTarget image.spray .spraying 20 [1, 2] (.known 1000) = 8000 ∧
      ({ Spray.reset with state := .spraying } : Spray).pumpStep image.spray 8000 8000 =
        { Spray.reset with state := .spraying, target := 8000, lastDuty := 440, prevDuty := 440 } := by decide

/-- 07, R134: 1200, 4000, 754 and 750 give an own cap of 750; without the overrun cap 754; with a limit of 600, 600. -/
theorem test_worked_own_cap :
    ({ ready with ctl := { ready.ctl with contrib := { Contributions.empty with ration := some 754, overrun1 := some 750 } } } :
        State).composeCap = 750 ∧
      ({ ready with ctl := { ready.ctl with contrib := { Contributions.empty with ration := some 754 } } } :
        State).composeCap = 754 ∧
      ({ ready with ctl := { ready.ctl with contrib := { Contributions.empty with ration := some 754 }, limit := 600 } } :
        State).composeCap = 600 := by decide

/-- 08, "The wheel stops and rolls back": 11500 µs is a pace of 469, 15250 µs one of 354, 60000 µs one of 90. -/
theorem test_worked_pace :
    image.rateOf .wheel [10000, 12000, 15000, 9000] = 469 ∧ image.rateOf .wheel [12000, 15000, 9000, 25000] = 354 ∧
      image.rateOf .wheel [60000] = 90 ∧ image.rateOf .engine [555] = 1801 ∧ image.rateOf .engine [556] = 1798 := by decide

/-- 10, the load with a short schedule: (0, 80), (0, 100), (700, 120) keeps one point; (0, 90), (900, 130), (1600, 170) keeps
all. -/
theorem test_worked_schedules_kept :
    keptPoints [(0, 80), (0, 100), (700, 120)] = [(0, 80)] ∧
      keptPoints [(0, 90), (900, 130), (1600, 170)] = [(0, 90), (900, 130), (1600, 170)] := by decide

/-- 06 and 11: the shortest STATE payload is 6 bytes, 86 bits; Station 5's frame with a demand, a brush report and a spray
report is 118 bits. -/
theorem test_frame_lengths :
    ({ snap := { station := 5, mode := 0, period := 2, claim := false, overrun := false, clamped := false, rationed := false,
                 limp := true, cap := 300, pace := none, budget := none, demand := none, brushes := [], spray := none,
                 faults := [] }, discard := 0 } : OwnFrame).bits = 86 ∧
      ({ snap := { station := 5, mode := 4, period := 2, claim := false, overrun := false, clamped := false,
                   rationed := false, limp := false, cap := 1200, pace := none, budget := none, demand := some 223,
                   brushes := [{ channel := 0, state := 2, overrun := false, starved := false }]
                   spray := some { state := 0, tankLow := false, opened := [] }, faults := [] }, discard := 0 } :
        OwnFrame).bits = 118 := by decide

/-- 11, R174: the 16 CRC bits go out most significant first, after a dominant start bit and before the end field. -/
theorem test_crc_sent_high_bit_first :
    (sentBits { shortFrame with crc := 0x8005#16 }).drop 63 =
      [true, false, false, false, false, false, false, false, false, false, false, false, false, true, false, true] ++
        List.replicate 7 true ∧ (sentBits shortFrame).head? = some false ∧ ofWord 0x80#8 0x05#8 = 0x8005 := by decide

/-- 05, R96 and R103: the budget of a STALE owner is marked held, that of a FRESH one known. -/
theorem test_budget_view_is_held :
    let p (x : Freshness) : Peer := { peer5 with fresh := x, fields := peer5.fields.map fun f => { f with budget := some 604 } }
    (p .stale).budgetView 150 = .held 604 ∧ (p .fresh).budgetView 150 = .known 604 ∧ (p .silent).budgetView 150 = .fallback 150 ∧
      (BudgetView.held 604).value = 604 := by decide

/-- 02, "A HOLD episode": over P_lim the first cut starts from the last duty, 420 to 410; under the band 990 becomes unlimited. -/
theorem test_worked_hold_ceiling :
    let i : BrushIn := { ready.brushIn .c1 with pressure := 1840 }
    ({ Brush.reset with state := .sweeping, lastDuty := 420 } : Brush).adjustCeiling i = { Brush.reset with state := .sweeping, lastDuty := 420, ceiling := some 410 } ∧
      (({ Brush.reset with state := .sweeping, ceiling := some 990 } : Brush).adjustCeiling { i with pressure := 1699 }).ceiling = none ∧
      (({ Brush.reset with state := .sweeping, ceiling := some 989 } : Brush).adjustCeiling { i with pressure := 1699 }).ceiling = some 999 ∧
      (({ Brush.reset with state := .sweeping, ceiling := some 390 } : Brush).adjustCeiling { i with pressure := 1700 }).ceiling = some 390 := by decide

/-! ### Witnesses: the machine -/

/-- The station with a drive step waiting. -/
def waiting : State := { ready with pending := [.driveStep now0] }

theorem witness_StepRunsTheFrontCommand : waiting.pending = .driveStep now0 :: [] := rfl

theorem ready_ctl : ready.ctl.Wf :=
  ⟨by decide, by decide, fun k => by cases k <;> decide, by decide, by decide, by decide⟩

theorem ready_link : ready.link.Wf := ⟨by decide, by decide, by decide, by decide⟩

theorem ready_capture : ready.capture.Wf := fun k => by cases k <;> exact ⟨by decide, by decide, by decide⟩

theorem witness_FollowingFiguresKeptByEveryStep : waiting.Settled ∧ ∃ t, step waiting = .next t :=
  ⟨⟨rfl, rfl, rfl, rfl, rfl⟩, _, rfl⟩

theorem witness_FollowingFiguresKeptByEveryStep_rules :
    let low := ({ bare with ctl := { bare.ctl with faults := [{ source := .supply, code := .lowSupply, state := .active }] } } :
      State).settle
    ready.ctl.ownCap = 1200 ∧ low.ctl.ownCap = 0 ∧ low.out.faultLamp = true ∧ ready.ctl.faults = [] ∧
      ready.ctl.silentCount = 1 ∧ ready.out.faultLamp = true ∧ ready.out.forcing = false ∧
      ({ bare with ctl := { bare.ctl with mode := .standby } } : State).settle.out.faultLamp = false ∧
      ({ bare with ctl := { bare.ctl with mode := .warmup } } : State).settle.out.forcing = true := by decide

theorem witness_ControllerBoundsKeptByEveryStep : waiting.ctl.Wf ∧ ∃ t, step waiting = .next t := ⟨ready_ctl, _, rfl⟩

theorem witness_LinkQuietOutsideActiveKeptByEveryStep : waiting.link.Wf ∧ ∃ t, step waiting = .next t :=
  ⟨ready_link, _, rfl⟩

theorem witness_OutputExclusionsKeptByEveryStep : waiting.out.Wf ∧ ∃ t, step waiting = .next t := ⟨ready_out, _, rfl⟩

theorem witness_CaptureAndPeersFormKeptByEveryStep :
    waiting.capture.Wf ∧ waiting.PeersWf ∧ ∃ t, step waiting = .next t :=
  ⟨ready_capture, ⟨ready_peers.places, ready_peers.absent, ready_peers.ages⟩, _, rfl⟩

/-- The station with one record in its fault list. -/
def withRecord (src : Source) (code : FaultCode) (st : RecordState) : State :=
  { ready with ctl := { ready.ctl with faults := [{ source := src, code := code, state := st }] } }

theorem witness_LatchedRecordsStandUntilClear :
    (∃ t, exec (.modeCheck now0) (withRecord .link .clash .latched) = .next t) ∧
      isReset (.modeCheck now0) = false ∧ isClear (.modeCheck now0) = false ∧
      (withRecord .link .clash .latched).takeable = false ∧ (withRecord .link .clash .latched).ctl.queue = [] ∧
      (withRecord .link .clash .latched).ctl.recordState .link = some .latched := ⟨⟨_, rfl⟩, rfl, rfl, rfl, rfl, by decide⟩

theorem witness_LatchedRecordsStandUntilClear_config :
    (∃ t, exec (.clear now0) (withRecord .config .schedule .latched) = .next t) ∧
      (withRecord .config .schedule .latched).ctl.recordState .config = some .latched := ⟨⟨_, rfl⟩, by decide⟩

/-- A STATE frame of station 5. -/
def frame5 : StateFrame :=
  { station := 5, mode := 4, period := 2, claim := false, overrun := false, clamped := false, rationed := false,
    limp := false, cap := 1200, pace := some (-15), budget := none, demand := some 223,
    brushes := [{ channel := 0, state := 2, overrun := false, starved := false }]
    spray := some { state := 2, tankLow := false, opened := [1, 2] }
    faults := [{ source := 6, state := 1, code := 21 }] }

theorem witness_StateFrameReadsBackAsSent : frame5.Fits := by
  refine ⟨by decide, by decide, by decide, by decide, ?_, ?_, ?_, by decide, ?_, by decide⟩
  · intro v hv; cases hv; decide
  · intro v hv; cases hv
  · intro v hv; cases hv; decide
  · intro r hr; cases hr; exact ⟨by decide, 3, by decide⟩

/-! ### Witnesses: the loader -/

theorem witness_ResetReleaseSamplesTheStraps :
    State.reset.takeable = false ∧
      State.reset.loader.resetHeld = true ∧ (after (.resetRelease now0 1#4) State.reset).loader.state = .reading ∧
      (after (.resetRelease now0 14#4) State.reset).loader.state = .reading ∧
      (after (.resetRelease now0 0#4) State.reset).ctl.mode = .limp ∧
      (after (.resetRelease now0 15#4) State.reset).loader.outcome = .illegalStrap := by decide

/-- A load at 100 s: its status wait, the bytes sent to the memory under the chip select, and the accepted length. -/
def loading (wait : Timer) (sent : List Byte) (length : Option Nat) : State :=
  { State.reset with
    now := 100000000
    loader :=
      { Loader.reset with
        resetHeld := false, state := .reading, station := 2, statusWait := wait, spiSelected := true, spiSent := sent,
        length := length } }

theorem loading_forms (wait : Timer) (sent : List Byte) (length : Option Nat) :
    (loading wait sent length).Settled ∧ (loading wait sent length).out.Wf :=
  ⟨⟨rfl, rfl, rfl, rfl, rfl⟩, ⟨by simp [loading, State.reset, Outputs.reset], by simp [loading, State.reset, Outputs.reset],
    .inl rfl, fun h => by simp [loading, State.reset, Outputs.reset] at h⟩⟩

theorem witness_StatusAndMarkerAreAnswered_status :
    let s := loading (some 99990000) [0x05#8] none
    s.takeable = false ∧ s.Settled ∧ s.out.Wf ∧ s.loader.state = .reading ∧ s.loader.statusWait = some 99990000 ∧
      s.now + now0.dt ≤ 99990000 + 10000 ∧ (0xFE#8).toNat % 2 = 0 ∧ (0xFF#8).toNat % 2 = 1 :=
  ⟨rfl, (loading_forms _ _ _).1, (loading_forms _ _ _).2, rfl, rfl, by decide, by decide, by decide⟩

theorem witness_StatusAndMarkerAreAnswered_marker :
    let s := loading none [0x03#8, 0x00#8] none
    s.takeable = false ∧ s.Settled ∧ s.out.Wf ∧ s.loader.state = .reading ∧ s.loader.spiSent = [0x03#8, 0x00#8] ∧
      s.loader.length = none ∧ 245 ≤ (245#8).toNat ∧ (245#8).toNat ≤ 251 ∧ 245 ≤ (251#8).toNat ∧ (251#8).toNat ≤ 251 :=
  ⟨rfl, (loading_forms _ _ _).1, (loading_forms _ _ _).2, rfl, rfl, rfl, by decide, by decide, by decide, by decide⟩

theorem witness_FailedLoadsEnterLimp_timeout :
    let s := loading (some 99990000) [0x05#8] none
    s.takeable = false ∧
      s.loader.state = .reading ∧ s.loader.statusWait = some 99990000 ∧ 99990000 + 10000 ≤ s.now + now0.dt ∧
      s.link.state ≠ .active ∧ (after (.statusWaitTimeout now0) s).ctl.ownCap = 300 := by decide

theorem witness_FailedLoadsEnterLimp_marker :
    let s := loading none [0x03#8, 0x00#8] none
    s.takeable = false ∧
      s.loader.state = .reading ∧ s.loader.spiSent = [0x03#8, 0x00#8] ∧ s.loader.length = none ∧
      ¬(0xFF#8 = 0x5A#8 ∧ 0x36#8 = 0x36#8) := by decide

theorem witness_FailedLoadsEnterLimp_length :
    let s := loading none [0x03#8, 0x00#8] none
    s.takeable = false ∧
      s.loader.state = .reading ∧ s.loader.spiSent = [0x03#8, 0x00#8] ∧ s.loader.length = none ∧
      (244#8).toNat < 245 ∧ 251 < (252#8).toNat := by decide

/-- The field bytes of a block of zeros of the least length. -/
def zeros : List Byte := List.replicate 245 0#8

/-- The CRC that its bytes call for. -/
def crcOf (fields : List Byte) : Nat :=
  (crc16 (([0x5A#8, 0x36#8, byte fields.length] ++ fields).flatMap fun b => bitsOf 8 b.toNat)).toNat

/-- Any block's CRC matches with its high byte first. -/
theorem crcOf_matches (fields : List Byte) :
    blockCrcMatches fields (byte (crcOf fields / 256)) (byte (crcOf fields % 256)) = true := by
  unfold blockCrcMatches crcOf ofWord byte
  generalize crc16 _ = x
  have := x.isLt
  simp only [BitVec.toNat_ofNat, beq_iff_eq]
  omega

/-- With another high byte it does not. -/
theorem crcOf_mismatches (fields : List Byte) :
    blockCrcMatches fields (byte (crcOf fields / 256) + 1#8) (byte (crcOf fields % 256)) = false := by
  unfold blockCrcMatches crcOf ofWord byte
  generalize crc16 _ = x
  have := x.isLt
  simp only [beq_eq_false_iff_ne, BitVec.toNat_add, BitVec.toNat_ofNat]
  omega

theorem witness_FailedLoadsEnterLimp_crc :
    let s := loading none [0x03#8, 0x00#8] (some 245)
    s.takeable = false ∧ s.loader.state = .reading ∧ s.loader.length = some zeros.length ∧
      blockCrcMatches zeros (byte (crcOf zeros / 256) + 1#8) (byte (crcOf zeros % 256)) = false := by
  exact ⟨rfl, rfl, congrArg some (List.length_replicate).symm, crcOf_mismatches _⟩

theorem witness_GoodLoadStartsTheStation :
    let s := loading none [0x03#8, 0x00#8] (some 245)
    s.takeable = false ∧ s.loader.state = .reading ∧ s.loader.length = some zeros.length ∧
      blockCrcMatches zeros (byte (crcOf zeros / 256)) (byte (crcOf zeros % 256)) = true ∧ s.link.state ≠ .active :=
  ⟨rfl, rfl, congrArg some (List.length_replicate).symm, crcOf_matches _, by decide⟩

/-- The same with brush channel 0 enabled, whose schedule is then short. -/
def zerosShort : List Byte := List.replicate 56 0#8 ++ 1#8 :: List.replicate 188 0#8

theorem witness_GoodLoadStartsTheStation_schedules : loadShort zeros = false ∧ loadShort zerosShort = true := by decide

/-! ### Witnesses: the travel drive -/

/-- The station with its drive in another state. -/
def driven (d : Drive) : State := { ready with drive := d }

/-- The station with the tracks at two values. -/
def State.tracks (s : State) (a b : Nat) : State :=
  { s with conv := { s.conv with pedalA := valid a, pedalB := valid b } }

/-- DRIVING forward with a ramp target. -/
def drivingAt (r : Nat) : Drive := { ready.drive with state := .driving, ramp := r }

/-- The capture unit with a pace. -/
def rolling0 (v : Nat) : Capture := { ready.capture with wheel := { ready.capture.wheel with rate := v, zeroRate := false } }

theorem witness_DriveRowsFrame :
    ready.Settled ∧ ready.out.Wf ∧ ready.takeable = false ∧ isDriveRow (.driveStep now0) = true ∧
      ∃ t, exec (.driveStep now0) ready = .next t := ⟨ready_settled, ready_out, rfl, rfl, _, rfl⟩

theorem witness_DriveStepFormsThePedalPosition :
    (State.tracks ready 2800 1296).takeable = false ∧
      (State.tracks ready 2800 1296).drive.state ≠ .disabled ∧ (State.tracks ready 2800 1296).ctl.mode ≠ .standby ∧
      (after (.driveStep now0) (State.tracks ready 2800 1296)).drive.pedal = 777 ∧
      (after (.driveStep now0) ready).drive.pedal = 0 := by decide

theorem witness_DriveStepKeepsItsLimits :
    let s := State.tracks (driven (drivingAt 100)) 2800 1296
    let h := State.tracks (driven { drivingAt 100 with hold := some .fwd }) 2800 1296
    s.takeable = false ∧
      s.drive.state ≠ .disabled ∧ s.ctl.mode ≠ .standby ∧ (after (.driveStep now0) s).drive.ramp = 105 ∧
      0 < (after (.driveStep now0) s).out.driveF.shadow ∧ (after (.driveStep now0) h).out.driveF.shadow = 0 := by decide

theorem witness_DriveStepKeepsItsLimits_held :
    (driven { drivingAt 100 with state := .held }).takeable = false ∧
      (driven { drivingAt 100 with state := .held }).drive.state = .held ∧
      (after (.driveStep now0) (driven { drivingAt 100 with state := .held })).drive.ramp = 0 ∧
      (after (.driveStep now0) (driven { drivingAt 100 with state := .yielded })).drive.ramp = 0 ∧
      (after (.driveStep now0) (driven { drivingAt 100 with state := .latched })).drive.ramp = 0 := by decide

/-- The station with its drive in a state, the pedal at 777, a requested direction and a pace. -/
def pedalled (d : Drive) (asked : Dir) (v : Nat) : State :=
  { State.tracks (driven d) 2800 1296 with ctl := { ready.ctl with requested := asked }, capture := rolling0 v }

/-- R11 to R14: engagement at rest, TURNING at speed, its timing and withdrawal, and the ways into and out of DRIVING. -/
theorem witness_DriveStepKeepsItsLimits_moves :
    let t (s : State) : Drive := (after (.driveStep now0) s).drive
    let still : Drive := ready.drive
    let turn : Drive := { drivingAt 100 with state := .turning }
    let stop (b : Timer) : State := driven { drivingAt 0 with stopTimer := b }
    (pedalled still .rev 30).takeable = false ∧ (t (pedalled still .rev 30)).engaged = .rev ∧
      (t (pedalled still .rev 30)).hold = some .rev ∧ (t (pedalled still .rev 30)).state = .driving ∧
      (t (pedalled still .neutral 30)).state = .standstill ∧ (t (pedalled still .neutral 30)).hold = none ∧
      (t (pedalled still .rev 31)).state = .turning ∧ (t (pedalled still .rev 31)).engaged = .fwd ∧
      (t (pedalled still .rev 31)).turnTimer = none ∧ (t (pedalled turn .rev 30)).turnTimer = some 100000000 ∧
      (t (pedalled turn .rev 30)).ramp = 90 ∧ (t (pedalled turn .fwd 31)).state = .driving ∧
      (t (pedalled still .fwd 0)).state = .driving ∧ (t ready).state = .standstill ∧
      (t (stop (some 98000000))).state = .standstill ∧ (t (stop (some 98000001))).state = .driving ∧
      (t (stop none)).stopTimer = some 100000000 ∧
      (t { stop (some 98000000) with capture := rolling0 31 }).stopTimer = none := by decide

/-- R6 to R9: a silent expected station makes the effective cap, and so the demand, 300; r falls by A_dn, or by A_stop at a cap of
0; r = 105 at v = 90 gives 179 + 3 + 0; blind at r = 890 the duty is the creep duty. -/
theorem witness_DriveStepKeepsItsLimits_figures :
    let t (s : State) : State := after (.driveStep now0) s
    let shut : State :=
      ({ bare with drive := drivingAt 400, ctl := { bare.ctl with limit := 0 } } : State).settle
    let blind : State := pedalled { drivingAt 900 with blind := true } .fwd 0
    (pedalled (drivingAt 400) .fwd 400).effectiveCap = 300 ∧ (t (pedalled (drivingAt 400) .fwd 400)).drive.ramp = 390 ∧
      (t (pedalled (drivingAt 299) .fwd 299)).drive.ramp = 300 ∧ shut.effectiveCap = 0 ∧ (t shut).drive.ramp = 360 ∧
      (t (pedalled (drivingAt 100) .fwd 90)).out.driveF.shadow = 182 ∧
      (t (pedalled (drivingAt 100) .fwd 90)).drive.integ = 7 ∧ (t blind).drive.ramp = 890 ∧
      (t blind).out.driveF.shadow = 300 ∧ (t ready).out.parkRelease = false ∧
      (t (pedalled ready.drive .fwd 0)).out.parkRelease = true := by decide

theorem witness_PedalFaultOnsetAndRecovery_onset :
    let s := State.tracks (driven { drivingAt 0 with disagreeTimer := some 99900000 }) 2800 3700
    s.takeable = false ∧
      s.drive.state ≠ .disabled ∧ s.ctl.mode ≠ .standby ∧ s.drive.pedalFault = false ∧ s.tracksDisagree = true ∧
      s.drive.disagreeTimer = some 99900000 ∧ 99900000 + 100000 ≤ s.now + now0.dt ∧ s.drive.blindTimer = none ∧
      s.drive.coilLatch = false ∧ s.drive.blind = false ∧ s.drive.state ≠ .yielded ∧ s.ctl.record .drive = none ∧
      (after (.pedalOnset now0) s).drive.pedalFault = true := by decide

theorem witness_PedalFaultOnsetAndRecovery_recovery :
    let s := { withRecord .drive .pedal .active with
      drive := { drivingAt 0 with pedalFault := true, recoverTimer := some 99500000 } }
    s.takeable = false ∧
      s.drive.state ≠ .disabled ∧ s.ctl.mode ≠ .standby ∧ s.drive.pedalFault = true ∧ s.tracksDisagree = false ∧
      s.trackPosition = 0 ∧ s.drive.recoverTimer = some 99500000 ∧ 99500000 + 500000 ≤ s.now + now0.dt ∧
      s.drive.blindTimer = none ∧
      s.ctl.record .drive = some { source := .drive, code := .pedal, state := .active } ∧
      (after (.pedalRecovery now0) s).ctl.faults = [] := by decide

theorem witness_StopAndTurnTimingsEnd_stop :
    let s := driven { drivingAt 0 with stopTimer := some 98000000 }
    let a := (s.arrive now0).pedalStage.blindStage
    s.takeable = false ∧
      s.ctl.mode ≠ .standby ∧ s.drive.state = .driving ∧ s.ctl.requested = s.drive.engaged ∧ s.drive.ramp = 0 ∧
      a.restSpeed ≤ 30 ∧ a.demandFor s.drive.engaged = 0 ∧ s.drive.stopTimer = some 98000000 ∧
      98000000 + 2000000 ≤ s.now + now0.dt ∧ (after (.stopTimingEnd now0) s).drive.state = .standstill := by decide

/-- TURNING from forward to reverse, the turn timing at its end, the pedal up or pressed. -/
def turning (a b : Nat) : State :=
  let s := State.tracks (driven { drivingAt 0 with state := .turning, turnTimer := some 99800000 }) a b
  { s with ctl := { s.ctl with requested := .rev } }

theorem witness_StopAndTurnTimingsEnd_turn :
    let s := turning 2800 1296
    let a := (s.arrive now0).pedalStage.blindStage
    s.takeable = false ∧
      s.ctl.mode ≠ .standby ∧ s.drive.state = .turning ∧ s.ctl.requested ≠ s.drive.engaged ∧ a.restSpeed ≤ 30 ∧
      s.drive.turnTimer = some 99800000 ∧ 99800000 + 200000 ≤ s.now + now0.dt ∧ s.drive.engaged ≠ .neutral ∧
      s.ctl.requested ≠ .neutral ∧ (after (.turnCompletion now0) s).drive.state = .driving ∧
      (after (.turnCompletion now0) (turning 400 3700)).drive.state = .standstill := by decide

theorem witness_BlindDetectionLatchesTheSensor :
    let s := driven { drivingAt 300 with prevRaw := 300, blindTimer := some 98000000 }
    s.takeable = false ∧
      s.ctl.mode ≠ .standby ∧ s.drive.state = .driving ∧ s.drive.blind = false ∧ 300 ≤ s.drive.prevRaw ∧
      s.capture.wheel.zeroRate = true ∧ s.drive.blindTimer = some 98000000 ∧ 98000000 + 2000000 ≤ s.now + now0.dt ∧
      (after (.blindDetection now0) s).drive.blind = true := by decide

/-! ### Witnesses: the brush channels and the ration unit -/

/-- The station with brush channel 0 in another state. -/
def brushing (b : Brush) : State := { ready with brush0 := b }

/-- Brush channel 0 SWEEPING. -/
def sweeping : Brush := { Brush.reset with state := .sweeping, lastDuty := 500 }

/-- The station with one VALID value on PRESS0: 1000 is 61.0 bar, 3200 is 195.3 bar, 500 is 30.5 bar. -/
def State.press0At (s : State) (v : Nat) : State := { s with conv := { s.conv with press0 := valid v } }

/-- The station with no brush selected. -/
def State.released (s : State) : State := { s with ctl := { s.ctl with select0 := false, select1 := false } }

/-- The station with one set of figures of the ration unit for channel 0. -/
def State.shared (s : State) (x : Share) : State := { s with ration := { s.ration with share0 := x } }

theorem witness_BrushRowsFrame :
    ready.Settled ∧ ready.out.Wf ∧ ready.takeable = false ∧ isBrushRow (.brushStep now0 .c0) = true ∧
      ∃ t, exec (.brushStep now0 .c0) ready = .next t := ⟨ready_settled, ready_out, rfl, rfl, _, rfl⟩

theorem witness_BrushStepFollowsTheCall_called :
    let i := (ready.arrive now0).brushIn .c0
    ready.takeable = false ∧
      ready.loader.state = .done ∧ ready.ctl.mode ≠ .standby ∧ (ready.brush .c0).state = .stowed ∧ i.called = true ∧
      i.overHard = false ∧ (after (.brushStep now0 .c1) ready).brush0.state = .descending := by decide

theorem witness_BrushStepFollowsTheCall_released :
    let s := State.released (brushing sweeping)
    let i := (s.arrive now0).brushIn .c0
    s.takeable = false ∧
      s.loader.state = .done ∧ s.ctl.mode ≠ .standby ∧ (s.brush .c0).state = .sweeping ∧ i.called = false ∧
      0 < i.cfg.spinDown ∧ (after (.brushStep now0 .c0) s).brush0.state = .raising := by decide

/-- Channel 1, whose spin-down is 0, SWEEPING and released. -/
def released1 : State := State.released { ready with brush1 := sweeping }

/-- At once, with the arm of channel 1 up. -/
def arm1Up : Moment := { dt := 0, pins := { keyOn with armUp1 := true } }

theorem witness_BrushStepFollowsTheCall_noSpinDown :
    let i := (released1.arrive now0).brushIn .c1
    let j := (released1.arrive arm1Up).brushIn .c1
    released1.takeable = false ∧
      (released1.brush .c1).state = .sweeping ∧ i.called = false ∧ i.cfg.spinDown = 0 ∧ i.armUp = false ∧
      j.called = false ∧ j.cfg.spinDown = 0 ∧ j.armUp = true ∧
      (after (.brushStep now0 .c0) released1).out.lift1 = true ∧
      (after (.brushStep arm1Up .c0) released1).brush1.state = .stowed := by decide

/-- Both brushes SWEEPING, the engine at a speed. -/
def running (engine : Nat) : State :=
  { ready with
    brush0 := { sweeping with prevDuty := 1000, trim := 10000 }
    brush1 := sweeping
    capture := { ready.capture with engine := { PulseInput.reset with rate := engine, zeroRate := false } } }

theorem witness_BrushStepFollowsTheCall_motor :
    let idle := after (.brushStep now0 .c0) (running 0)
    let t := after (.brushStep now0 .c0) (running 2400)
    (running 0).takeable = false ∧ (running 0).brush0.state ≠ .disabled ∧ idle.brush0.state.working = true ∧
      idle.ration.share0.granted = 0 ∧ idle.brush0.prevDuty = 1000 ∧ (running 2400).takeable = false ∧
      t.brush0.state.working = true ∧ 0 < t.ration.share0.granted ∧ t.brush0.trim = 10000 ∧
      t.brush0.lastDuty = 100 + t.ration.share0.granted * 3 + 100 ∧
      t.brush1.trim = 5 * (t.ration.share1.granted : Int) ∧ ready.brush0.state = .stowed ∧
      (after (.brushStep now0 .c0) (State.released ready)).brush0.lastDuty = 0 := by decide

/-- The HOLD channel SWEEPING with a ceiling at a pressure. -/
def held1 (ceiling : Option Nat) (press : Nat) : State :=
  { ready with brush1 := { sweeping with ceiling := ceiling, lastDuty := 420 }, conv := { ready.conv with press1 := valid press } }

theorem witness_BrushStepFollowsTheCall_ceiling :
    let i (v : Nat) := ((held1 none v).arrive now0).brushIn .c1
    (held1 none 3200).takeable = false ∧ (i 3200).cfg.limitMode = 1 ∧ (i 3200).usable = true ∧
      (i 3200).cfg.pLim < (i 3200).pressure ∧ (i 2700).pressure + 100 < (i 2700).cfg.pLim ∧
      ¬(i 2900).cfg.pLim < (i 2900).pressure ∧ ¬(i 2900).pressure + 100 < (i 2900).cfg.pLim ∧
      (after (.brushStep now0 .c0) (held1 none 3200)).brush1.ceiling = some 410 ∧
      (after (.brushStep now0 .c0) (held1 (some 5) 3200)).brush1.ceiling = some 0 ∧
      (after (.brushStep now0 .c0) (held1 (some 990) 2700)).brush1.ceiling = none ∧
      (after (.brushStep now0 .c0) (held1 (some 989) 2700)).brush1.ceiling = some 999 ∧
      (after (.brushStep now0 .c0) (held1 (some 390) 2900)).brush1.ceiling = some 390 := by decide

/-- The station in TRANSPORT, its broom STOWED with the arm down, or failed. -/
def armDown (st : BrushState) : State := { brushing { Brush.reset with state := st } with ctl := { ready.ctl with mode := .transport } }

theorem witness_BrushStepFollowsTheCall_contributions :
    (armDown .latched).takeable = false ∧ (armDown .stowed).ctl.mode = .transport ∧
      (after (.brushStep now0 .c0) (armDown .stowed)).ctl.contrib.transport0 = some 1200 ∧
      (after (.brushStep now0 .c0) (armDown .stowed)).ctl.contrib.afterFault0 = none ∧
      (after (.brushStep now0 .c0) (armDown .latched)).ctl.contrib.afterFault0 = some 300 ∧
      (after (.brushStep arm1Up .c0) (armDown .stowed)).ctl.contrib.transport1 = none ∧
      (after (.brushStep now0 .c0) (running 0)).ctl.contrib.transport0 = none := by decide

theorem witness_ContactIsFoundAndLost_contact :
    let s := brushing { Brush.reset with state := .descending, contactTimer := some 99800000 }
    let i := (s.arrive now0).brushIn .c0
    s.takeable = false ∧
      s.loader.state = .done ∧ s.ctl.mode ≠ .standby ∧ (s.brush .c0).state = .descending ∧ i.called = true ∧
      i.contact = true ∧ (s.brush .c0).contactTimer = some 99800000 ∧
      99800000 + i.cfg.tContact * 1000 ≤ s.now + now0.dt ∧
      (after (.contactDetected now0 .c0 .c0) s).brush0.state = .sweeping := by decide

theorem witness_ContactIsFoundAndLost_lost :
    let s := State.press0At (brushing { sweeping with lossTimer := some 99000000 }) 500
    let i := (s.arrive now0).brushIn .c0
    s.takeable = false ∧
      s.loader.state = .done ∧ s.ctl.mode ≠ .standby ∧ (s.brush .c0).state = .sweeping ∧ i.called = true ∧
      (s.brush .c0).starveTimer = none ∧ i.cfg.contactMode = 0 ∧ i.usable = true ∧ i.pressure < i.cfg.lossLevel ∧
      (s.brush .c0).lossTimer = some 99000000 ∧ 99000000 + i.cfg.tLoss * 1000 ≤ s.now + now0.dt ∧
      (after (.lossOfContact now0 .c0 .c0) s).brush0.state = .descending := by decide

theorem witness_StarvedBrushWaitsAndResumes_starved :
    let s := State.shared (brushing { sweeping with starveTimer := some 98000000 }) { Share.zero with demand := 300, grant := 74 }
    let i := (s.arrive now0).brushIn .c0
    s.takeable = false ∧
      s.loader.state = .done ∧ s.ctl.mode ≠ .standby ∧ (s.brush .c0).state = .sweeping ∧ i.called = true ∧
      i.share.grant * 4 < i.share.demand ∧ (s.brush .c0).starveTimer = some 98000000 ∧
      98000000 + 2000000 ≤ s.now + now0.dt ∧ (after (.starvation now0 .c0 .c0) s).brush0.starved = true := by decide

theorem witness_StarvedBrushWaitsAndResumes_resumed :
    let s := State.shared (brushing { Brush.reset with state := .waiting, starved := true, resumeTimer := some 99000000 })
      { Share.zero with wouldBe := 500 }
    let i := (s.arrive now0).brushIn .c0
    s.takeable = false ∧
      s.loader.state = .done ∧ s.ctl.mode ≠ .standby ∧ (s.brush .c0).state = .waiting ∧ i.overHard = false ∧
      i.called = true ∧ 500 ≤ i.share.wouldBe ∧ (s.brush .c0).resumeTimer = some 99000000 ∧
      99000000 + 1000000 ≤ s.now + now0.dt ∧ (after (.resume now0 .c0 .c0) s).brush0.state = .descending := by decide

theorem witness_SpinDownAndRecoveryDelayEnd_spinDown :
    let s := brushing { Brush.reset with state := .raising, spinTimer := some 99000000 }
    let i := (s.arrive now0).brushIn .c0
    s.takeable = false ∧
      s.loader.state = .done ∧ s.ctl.mode ≠ .standby ∧ (s.brush .c0).state = .raising ∧ i.overHard = false ∧
      (s.brush .c0).raiseTimer = none ∧ (s.brush .c0).spinTimer = some 99000000 ∧
      99000000 + i.cfg.spinDown * 1000 ≤ s.now + now0.dt ∧ i.armUp = false ∧
      (after (.spinDownEnd now0 .c0 .c0) s).out.lift0 = true := by decide

/-- The station with brush channel 0 in FAULT, its recovery delay at its end, in or out of a SUPPLY condition. -/
def recovering (low : Bool) : State :=
  { withRecord .brush0 .stall .active with
    brush0 := { Brush.reset with state := .fault, code := some .stall, recoveryTimer := some 98000000 }
    out := { ready.out with supply := if low then .low else .normal } }

theorem witness_SpinDownAndRecoveryDelayEnd_recovery :
    (recovering true).takeable = false ∧ (recovering false).takeable = false ∧
      (recovering true).loader.state = .done ∧ (recovering true).ctl.mode ≠ .standby ∧
      ((recovering true).brush .c0).state = .fault ∧ ((recovering true).brush .c0).recoveryTimer = some 98000000 ∧
      98000000 + 2000000 ≤ (recovering true).now + now0.dt ∧
      (recovering true).ctl.recordState (sourceOf (countedOf .c0)) = some .active ∧ (recovering true).supplyLow = true ∧
      (recovering false).supplyLow = false ∧ ((recovering false).cfg.brush .c0).spinDown ≠ 0 ∧
      (after (.brushRecoveryDelayEnd now0 .c0 .c0) (recovering true)).brush0.state = .held ∧
      (after (.brushRecoveryDelayEnd now0 .c0 .c0) (recovering false)).brush0.state = .raising := by decide

/-- The station with a brush speed on channel 0's pickup. -/
def State.turningAt (s : State) (n : Nat) : State :=
  { s with capture := { s.capture with brush0 := { PulseInput.reset with rate := n, zeroRate := false } } }

theorem witness_OverrunStandsAndClears_onset :
    let s := State.turningAt (State.shared (brushing { sweeping with onsetTimer := some 99700000 })
      { Share.zero with granted := 100 }) 146
    let i := (s.arrive now0).brushIn .c0
    s.takeable = false ∧
      s.loader.state = .done ∧ s.ctl.mode ≠ .standby ∧ (s.brush .c0).state = .sweeping ∧ i.called = true ∧
      (s.brush .c0).starveTimer = none ∧ (s.brush .c0).lossTimer = none ∧ (s.brush .c0).tripTimer = none ∧
      (s.brush .c0).stallTimer = none ∧ 0 < i.cfg.tLoss ∧ 0 < i.cfg.tTrip ∧ 0 < i.cfg.tHoldMax ∧ i.overHard = false ∧
      i.usable = true ∧ i.cfg.pulses ≠ 0 ∧ (s.brush .c0).overrun = false ∧ (s.brush .c0).standingTimer = none ∧
      i.share.granted * 5 / 4 + 20 < i.speed ∧ (s.brush .c0).onsetTimer = some 99700000 ∧
      99700000 + 300000 ≤ s.now + now0.dt ∧ (after (.overrunOnset now0 .c0 .c0) s).brush0.overrun = true := by decide

theorem witness_OverrunStandsAndClears_clear :
    let s := State.turningAt (State.shared (brushing { sweeping with overrun := true, clearTimer := some 99000000 })
      { Share.zero with granted := 100 }) 100
    let i := (s.arrive now0).brushIn .c0
    s.takeable = false ∧
      s.loader.state = .done ∧ s.ctl.mode ≠ .standby ∧ (s.brush .c0).state = .sweeping ∧ i.called = true ∧
      (s.brush .c0).starveTimer = none ∧ (s.brush .c0).lossTimer = none ∧ (s.brush .c0).tripTimer = none ∧
      (s.brush .c0).stallTimer = none ∧ 0 < i.cfg.tLoss ∧ 0 < i.cfg.tTrip ∧ 0 < i.cfg.tHoldMax ∧ i.overHard = false ∧
      i.usable = true ∧ (s.brush .c0).overrun = true ∧ i.speed ≤ i.share.granted ∧
      (s.brush .c0).clearTimer = some 99000000 ∧ 99000000 + 1000000 ≤ s.now + now0.dt ∧
      (after (.overrunClear now0 .c0 .c0) s).brush0.overrun = false := by decide

theorem witness_TimedBrushFaultsArePosted_descend :
    let s := State.press0At (brushing { Brush.reset with state := .descending, descendTimer := some 94000000 }) 500
    let i := (s.arrive now0).brushIn .c0
    s.takeable = false ∧
      s.loader.state = .done ∧ s.ctl.mode ≠ .standby ∧ s.ctl.recordState .brush0 = none ∧
      s.brush0.state = .descending ∧ i.called = true ∧ i.contact = false ∧ s.brush0.descendTimer = some 94000000 ∧
      94000000 + i.cfg.descendTimeout * 1000 ≤ s.now + now0.dt ∧
      (after (.descendTimeout now0 .c0 .c0) s).brush0.code = some .noContact := by decide

theorem witness_TimedBrushFaultsArePosted_raise :
    let s := brushing { Brush.reset with state := .raising, raiseTimer := some 96000000 }
    let i := (s.arrive now0).brushIn .c0
    s.takeable = false ∧
      s.ctl.recordState .brush0 = none ∧ s.brush0.state = .raising ∧ i.overHard = false ∧ i.armUp = false ∧
      s.brush0.raiseTimer = some 96000000 ∧ 96000000 + i.cfg.raiseTimeout * 1000 ≤ s.now + now0.dt ∧
      (after (.raiseTimeout now0 .c0 .c0) s).brush0.code = some .raiseTimeout := by decide

theorem witness_TimedBrushFaultsArePosted_trip :
    let s := State.press0At (brushing { sweeping with tripTimer := some 99700000 }) 3200
    let i := (s.arrive now0).brushIn .c0
    s.takeable = false ∧
      s.ctl.recordState .brush0 = none ∧ s.brush0.state = .sweeping ∧ i.called = true ∧ s.brush0.starveTimer = none ∧
      s.brush0.lossTimer = none ∧ 0 < i.cfg.tLoss ∧ i.overHard = false ∧ i.overLimit = true ∧ i.cfg.limitMode = 0 ∧
      s.brush0.tripTimer = some 99700000 ∧ 99700000 + i.cfg.tTrip * 1000 ≤ s.now + now0.dt ∧
      (after (.trip now0 .c0 .c0) s).brush0.code = some .overpressure := by decide

theorem witness_TimedBrushFaultsArePosted_stall :
    let s := { ready with
      brush1 := { sweeping with stallTimer := some 95000000 }, conv := { ready.conv with press1 := valid 3200 } }
    let i := (s.arrive now0).brushIn .c1
    s.takeable = false ∧
      s.ctl.recordState .brush1 = none ∧ s.brush1.state = .sweeping ∧ i.called = true ∧ s.brush1.starveTimer = none ∧
      s.brush1.lossTimer = none ∧ 0 < i.cfg.tLoss ∧ i.overHard = false ∧ i.overLimit = true ∧ i.cfg.limitMode = 1 ∧
      s.brush1.stallTimer = some 95000000 ∧ 95000000 + i.cfg.tHoldMax * 1000 ≤ s.now + now0.dt ∧
      (after (.stall now0 .c0 .c1) s).brush1.code = some .stall := by decide

theorem witness_TimedBrushFaultsArePosted_overrun :
    let s := State.turningAt (State.shared (brushing { sweeping with overrun := true, standingTimer := some 97000000 })
      { Share.zero with granted := 100 }) 101
    let i := (s.arrive now0).brushIn .c0
    s.takeable = false ∧
      s.ctl.recordState .brush0 = none ∧ s.brush0.state = .sweeping ∧ i.called = true ∧ s.brush0.starveTimer = none ∧
      s.brush0.lossTimer = none ∧ 0 < i.cfg.tLoss ∧ i.usable = true ∧ i.pressure ≤ i.cfg.pLim ∧
      s.brush0.overrun = true ∧ i.share.granted < i.speed ∧ s.brush0.standingTimer = some 97000000 ∧
      97000000 + 3000000 ≤ s.now + now0.dt ∧
      (after (.overrunStanding now0 .c0 .c0) s).brush0.code = some .overrun := by decide

theorem witness_GrantsStayWithinDemandAndBudget :
    ready.takeable = false ∧ ready.loader.state = .done ∧ ready.ctl.mode ≠ .standby ∧
      ∃ t, exec (.brushStep now0 .c0) ready = .next t := ⟨rfl, rfl, by decide, _, rfl⟩

set_option maxRecDepth 8000 in
/-- A budget of 604 for 223 from each brush and 223 from station 5: each is granted 201, which is 90 rpm; a WAITING channel would
have a ratio of 604 to 669. -/
theorem witness_GrantsStayWithinDemandAndBudget_figures :
    let t := after (.brushStep now0 .c0) (running 2400)
    let w := after (.brushStep now0 .c0) { running 2400 with brush0 := { Brush.reset with state := .waiting } }
    let d := after (.brushStep now0 .c0) { running 2400 with brush0 := Brush.reset }
    t.ration.engineBudget = 604 ∧ t.ration.budget = 604 ∧ t.ration.total = 669 ∧ t.ration.demand = 446 ∧
      t.ration.share0 = { n := 100, demand := 223, grant := 201, granted := 90, wouldBe := 0 } ∧
      w.ration.share0 = { n := 100, demand := 0, grant := 0, granted := 0, wouldBe := 902 } ∧ w.ration.total = 446 ∧
      d.brush0.state = .disabled ∧ d.ration.share0 = Share.zero := by decide

theorem witness_RatioAndRationCap_onset :
    let s := { brushing sweeping with ration := { Ration.reset with onsetTimer := some 99000000 } }
    let a := (s.arrive now0).brushStage1Both .c0
    s.takeable = false ∧
      s.loader.state = .done ∧ s.ctl.mode ≠ .standby ∧ s.anyBrush = true ∧ s.ration.capActive = false ∧
      a.formRatio < 800 ∧ s.ration.onsetTimer = some 99000000 ∧ 99000000 + 1000000 ≤ s.now + now0.dt ∧
      (after (.rationCapOnset now0 .c0) s).ration.capActive = true := by decide

/-- Between its rows the cap is posted anew with each step's ratio: 902 of 1200 is 1082. -/
theorem witness_RatioAndRationCap_standing :
    let t := after (.brushStep now0 .c0) { running 2400 with ration := { Ration.reset with capActive := true } }
    let u := after (.brushStep now0 .c0) (running 0)
    t.anyBrush = true ∧ t.ration.ratio = 902 ∧ t.ration.capActive = true ∧ t.ration.releaseTimer = some 100000000 ∧
      t.ctl.contrib.ration = some 1082 ∧ u.ration.capActive = false ∧ u.ration.onsetTimer = some 100000000 ∧
      u.ctl.contrib.ration = none := by decide

/-- The station asking for boost, or not, since a moment, its brushes called or not. -/
def boosting (on : Bool) (since : Timer) (called : Bool) : State :=
  let s := driven { ready.drive with boost := on, boostTimer := since }
  if called then { s with brush0 := sweeping } else State.released s

/-- The engine at 2400 rpm, the brushes not called, the boost asserted at a moment. -/
def rich1 (since : Nat) : State :=
  { boosting true (some since) false with
    capture := { ready.capture with engine := { PulseInput.reset with rate := 2400, zeroRate := false } } }

theorem witness_RatioAndRationCap_boost :
    let call := after (.brushStep now0 .c0) (boosting false none true)
    (boosting false none true).takeable = false ∧ (boosting false none true).drive.state ≠ .yielded ∧
      (boosting false none true).drive.boost = false ∧
      call.ration.budget * image.drive.boostThreshold / 1000 < call.ration.total ∧ call.drive.boost = true ∧
      call.out.boost = true ∧ (driven { ready.drive with state := .yielded }).drive.state = .yielded ∧
      (boosting true (some 97000000) false).drive.boost = true ∧ 97000000 + 3000 * 1000 ≤ ready.now + now0.dt ∧
      (after (.brushStep now0 .c0) (rich1 97000000)).drive.boost = false ∧
      (after (.brushStep now0 .c0) (rich1 97000001)).drive.boost = true ∧
      (after (.brushStep now0 .c0) (boosting true (some 97000000) true)).drive.boost = true := by decide

/-- The station with the budget of an engine at 2400 rpm and its brushes not called. -/
def rich : State :=
  let s := State.released ready
  { s with
    capture := { s.capture with engine := { PulseInput.reset with rate := 2400, zeroRate := false } }
    ration := { Ration.reset with capActive := true, releaseTimer := some 98000000 } }

theorem witness_RatioAndRationCap_release :
    let a := (rich.arrive now0).brushStage1Both .c0
    rich.takeable = false ∧
      rich.loader.state = .done ∧ rich.ctl.mode ≠ .standby ∧ rich.anyBrush = true ∧ rich.ration.capActive = true ∧
      900 ≤ a.formRatio ∧ rich.ration.releaseTimer = some 98000000 ∧ 98000000 + 2000000 ≤ rich.now + now0.dt ∧
      (after (.rationCapRelease now0 .c0) rich).ration.capActive = false := by decide

/-! ### Witnesses: the spray channel -/

/-- The station with its spray channel in another state. -/
def spraying (x : Spray) : State := { ready with spray := x }

/-- Station 5 heard with the drive claim and a pace. -/
def State.paced (s : State) (v : Int) : State :=
  { s with
    drive := { s.drive with state := .yielded }
    peers := s.peers.map fun p =>
      if p.station = 5 then { p with fields := p.fields.map fun f => { f with claim := true, pace := some v } } else p }

/-- The station with a TANK code of a VALID value. -/
def State.tankAt (s : State) (v : Nat) : State := { s with conv := { s.conv with tank := valid v } }

theorem witness_SprayRowsFrame :
    ready.Settled ∧ ready.out.Wf ∧ ready.takeable = false ∧ isSprayRow (.sprayStep now0) = true ∧
      ∃ t, exec (.sprayStep now0) ready = .next t := ⟨ready_settled, ready_out, rfl, rfl, _, rfl⟩

theorem witness_SprayStepWritesPumpAndNozzles :
    let s := State.paced ready 50
    s.takeable = false ∧
      s.spray.state ≠ .disabled ∧ s.ctl.mode ≠ .standby ∧ s.spray.state = .off ∧ s.sprayCalled = true ∧
      s.tankOut = false ∧ s.spray.tankLowTimer = none ∧ s.cfg.spray.tankLow ≤ s.conv.tank.value * 100 / 4096 ∧
      s.wantedGroups ≠ [] ∧ s.paceView.magnitude = some 50 ∧ 50 ≤ 50 ∧
      (after (.sprayStep now0) s).out.nozzle3 = true ∧ (after (.sprayStep now0) s).out.pump.shadow = 160 := by decide

theorem witness_SprayStepWritesPumpAndNozzles_spraying :
    let s := State.paced (spraying { ready.spray with state := .spraying, prevDuty := 440 }) 1000
    s.takeable = false ∧
      s.spray.state ≠ .disabled ∧ s.ctl.mode ≠ .standby ∧ (after (.sprayStep now0) s).spray.state = .spraying ∧
      (after (.sprayStep now0) s).spray.wanted = [1, 3] ∧ (after (.sprayStep now0) s).spray.target = 6666 := by decide

/-- R75, R76: Q = 6666 without flow adds 666 to the trim, and the duty is 120 + 266 + 6; at a bound the trim stays; a group of an
own brush is wanted while that brush is SWEEPING. -/
theorem witness_SprayStepWritesPumpAndNozzles_pump :
    let s (duty : Int) : State := State.paced (spraying { ready.spray with state := .spraying, prevDuty := duty }) 1000
    let t (duty : Int) : State := after (.sprayStep now0) (s duty)
    (t 440).spray.trim = 666 ∧ (t 440).spray.prevDuty = 392 ∧ (t 440).out.pump.shadow = 392 ∧ (t 1000).spray.trim = 0 ∧
      (t 999).spray.trim = 666 ∧
      (after (.sprayStep now0) { s 440 with brush0 := sweeping }).spray.wanted = [1, 2, 3] := by decide

theorem witness_PrimingAndStandstillHoldEnd_prime :
    let s := spraying { ready.spray with state := .priming, primeTimer := some 99000000 }
    s.takeable = false ∧
      s.ctl.mode = .sweep ∧ s.ctl.sprayOn = true ∧ s.spray.state = .priming ∧ s.wantedGroups ≠ [] ∧ s.tankOut = false ∧
      s.spray.tankLowTimer = none ∧ s.spray.primeTimer = some 99000000 ∧
      99000000 + s.cfg.spray.primeTime * 1000 ≤ s.now + now0.dt ∧
      (after (.primeTimeEnd now0) s).spray.state = .spraying ∧
      (after (.primeTimeEnd now0) { s with drive := { s.drive with state := .yielded } }).spray.state = .paused := by decide

theorem witness_PrimingAndStandstillHoldEnd_standstill :
    let s := State.paced (spraying { ready.spray with state := .spraying, trim := -40, standstillTimer := some 98000000 }) 29
    s.takeable = false ∧
      s.ctl.mode = .sweep ∧ s.ctl.sprayOn = true ∧ s.spray.state = .spraying ∧ s.wantedGroups ≠ [] ∧ s.tankOut = false ∧
      s.spray.tankLowTimer = none ∧ s.spray.dryRunTimer = none ∧ s.paceView.magnitude = some 29 ∧
      s.spray.standstillTimer = some 98000000 ∧ 98000000 + s.cfg.spray.standstillHold * 1000 ≤ s.now + now0.dt ∧
      (after (.standstillHoldEnd now0) s).spray.trim = -40 := by decide

theorem witness_TankAndDryRunTimingsEnd_empty :
    let s := State.tankAt (spraying { ready.spray with state := .spraying, tankLowTimer := some 95000000 }) 400
    s.takeable = false ∧
      s.ctl.mode = .sweep ∧ s.ctl.sprayOn = true ∧ s.spray.state = .spraying ∧ s.tankOut = false ∧
      s.spray.dryRunTimer = none ∧ s.conv.tank.value * 100 / 4096 < s.cfg.spray.tankLow ∧
      s.spray.tankLowTimer = some 95000000 ∧ 95000000 + 5000000 ≤ s.now + now0.dt ∧ s.cfg.spray.drySweep = 0 ∧
      (after (.tankLowEmpty now0) s).ctl.contrib.dust = some 600 := by decide

theorem witness_TankAndDryRunTimingsEnd_refill :
    let s := State.tankAt (spraying { ready.spray with state := .empty, refillTimer := some 95000000 }) 624
    s.takeable = false ∧
      s.ctl.mode ≠ .standby ∧ s.spray.state = .empty ∧ s.tankOut = false ∧
      s.cfg.spray.tankLow + 5 ≤ s.conv.tank.value * 100 / 4096 ∧ s.spray.refillTimer = some 95000000 ∧
      95000000 + 5000000 ≤ s.now + now0.dt ∧ (after (.refill now0) s).spray.state = .off := by decide

/-- SPRAYING with no flow for 3000 ms, the recovery count at `n`. -/
def dry (n : Nat) : State :=
  { spraying { ready.spray with state := .spraying, target := 1000, lastDuty := 200, dryRunTimer := some 97000000 } with
    ctl := { ready.ctl with sprayCount := { count := n, window := none } } }

theorem witness_TankAndDryRunTimingsEnd_dryRun :
    let s := dry 2
    s.takeable = false ∧
      s.ctl.mode = .sweep ∧ s.ctl.sprayOn = true ∧ s.spray.state = .spraying ∧ s.tankOut = false ∧
      s.capture.flow.rate * 4 < s.spray.target ∧ 200 ≤ s.spray.lastDuty ∧ s.spray.dryRunTimer = some 97000000 ∧
      97000000 + 3000000 ≤ s.now + now0.dt ∧ s.ctl.recordState .spray = none ∧ s.ctl.sprayCount.count < 3 ∧
      (dry 3).ctl.sprayCount.count = 3 ∧ (after (.dryRun now0) (dry 2)).spray.state = .fault ∧
      (after (.dryRun now0) (dry 3)).spray.state = .latched := by decide

theorem witness_TankAndDryRunTimingsEnd_recovery :
    let s := { withRecord .spray .dryRun .active with
      spray := { ready.spray with state := .fault, recoveryTimer := some 90000000 } }
    s.takeable = false ∧
      s.ctl.mode ≠ .standby ∧ s.spray.state = .fault ∧ s.spray.recoveryTimer = some 90000000 ∧
      90000000 + 10000000 ≤ s.now + now0.dt ∧ s.ctl.recordState .spray = some .active ∧
      (after (.sprayRecoveryDelayEnd now0) s).spray.state = .off ∧
      (after (.sprayRecoveryDelayEnd now0) { s with out := { s.out with supply := .low } }).spray.state = .held := by
  decide

/-! ### Witnesses: the peer table -/

/-- The station with its receiver following a frame. -/
def hearing : State := { ready with link := { ready.link with receiver := .receiving, recessive := 0 } }

/-- A frame of station 1 that claims the drive, with values out of range. -/
def frame1 : StateFrame :=
  { frame5 with station := 1, claim := true, cap := 5000, period := 0, pace := some (-32768), budget := some 3000 }

set_option maxRecDepth 8000 in
theorem witness_ArrivalReplacesTheRecord :
    hearing.takeable = false ∧
      hearing.link.receivingFrame = true ∧ takenState frame5.onBus = some frame5 ∧ hearing.link.state ≠ .waking ∧
      frame5.station ≠ 0 ∧ frame5.station ≠ 15 ∧ frame5.station ≠ hearing.loader.station ∧ frame5.claim = false := by
  decide

set_option maxRecDepth 8000 in
theorem witness_ArrivalReplacesTheRecord_claim :
    hearing.takeable = false ∧
      takenState frame1.onBus = some frame1 ∧ frame1.station ≠ hearing.loader.station ∧ frame1.claim = true ∧
      frame1.station < hearing.loader.station ∧ hearing.drive.state.claims = true ∧
      (after (.stateFrameReceived now0 frame1.onBus) hearing).drive.state = .yielded ∧
      ((after (.stateFrameReceived now0 frame1.onBus) hearing).peers.head?.bind (·.period)) = some 10 := by decide

theorem witness_RecordsAgeToStaleAndSilent_fresh :
    ready.takeable = false ∧ ready.Settled ∧ ready.out.Wf ∧ ready.PeersWf ∧ ready.peer 5 = some peer5 ∧ peer5.fresh = .fresh ∧
      peer5.period = some 20 ∧ peer5.age = some 99940000 ∧ 99940000 + 3 * 20 * 1000 ≤ ready.now + now0.dt :=
  ⟨rfl, ready_settled, ready_out, ready_peers, by decide, rfl, rfl, rfl, by decide⟩

/-- The record of station 5 last heard 25 periods ago. -/
def old5 (expected : Bool) : Peer := { peer5 with fresh := .stale, age := some 99500000, expected := expected }

/-- The station with that record. -/
def aged (expected : Bool) : State :=
  { ready with peers := ready.peers.map fun p => if p.station = 5 then old5 expected else p }

theorem witness_RecordsAgeToStaleAndSilent_stale :
    (aged true).takeable = false ∧ (aged false).takeable = false ∧
      (aged true).peer 5 = some (old5 true) ∧ (aged false).peer 5 = some (old5 false) ∧ (old5 true).fresh = .stale ∧
      (old5 true).period = some 20 ∧ (old5 true).age = some 99500000 ∧
      99500000 + 25 * 20 * 1000 ≤ (aged true).now + now0.dt ∧ (old5 true).expected = true ∧
      (old5 false).expected = false ∧ (aged true).ctl.mode ≠ .standby ∧
      (after (.staleExpiry now0 5) (aged true)).ctl.silentCount = 2 := by decide

theorem witness_PeerDemandsAreSummed :
    ready.PeersWf ∧ (∃ n, ready.tableOwn = some n ∧ 1 ≤ n ∧ n ≤ 14) ∧
      (∀ p ∈ ready.peers, ∀ f, p.fields = some f → ∀ v, f.demand = some v → v ≤ 2000) := by
  refine ⟨ready_peers, ⟨2, rfl, by decide, by decide⟩, ?_⟩
  have h : ∀ p ∈ ready.peers, ((p.fields.bind (·.demand)).getD 0) ≤ 2000 := by decide
  intro p hp f hf v hv
  simpa [hf, hv] using h p hp

/-- Station 5 as the drive owner, FRESH or STALE, with a pace and a budget or without. -/
def owned (x : Freshness) (pace : Option Int) (budget : Option Nat) : State :=
  { ready with
    drive := { ready.drive with state := .yielded }
    peers := ready.peers.map fun p =>
      if p.station = 5 then
        { p with fresh := x, fields := p.fields.map fun f => { f with claim := true, pace := pace, budget := budget } }
      else p }

/-- R102, R103, R106: the views on the owner, without one, and by the owner's record. -/
theorem witness_PeerDemandsAreSummed_views :
    ready.owner = some 2 ∧ ready.paceView = .known 0 ∧ ready.budgetView 604 = .known 604 ∧
      (driven { ready.drive with blind := true }).paceView = .unknown ∧
      (driven { ready.drive with state := .yielded }).owner = none ∧
      (driven { ready.drive with state := .yielded }).paceView = .unknown ∧
      (driven { ready.drive with state := .yielded }).budgetView 604 = .fallback 150 ∧
      (owned .fresh (some 50) (some 604)).owner = some 5 ∧ (owned .fresh (some 50) (some 604)).paceView = .known 50 ∧
      (owned .stale (some 50) (some 604)).paceView = .held 50 ∧
      (owned .stale (some 50) (some 604)).budgetView 0 = .held 604 ∧
      (owned .fresh none none).paceView = .unknown ∧ (owned .fresh none none).budgetView 0 = .fallback 150 ∧
      ready.peerBrush 5 0 = some { channel := 0, state := 2, overrun := false, starved := false } ∧
      ready.peerBrush 5 1 = none ∧ ready.peerBrush 9 0 = none := by decide

/-! ### Witnesses: the link -/

theorem witness_LinkRowsFrame :
    ready.Settled ∧ ready.out.Wf ∧ ready.takeable = false ∧ isLinkRow (.startBitTaken now0) = true ∧
      ∃ t, exec (.startBitTaken now0) ready = .next t := ⟨ready_settled, ready_out, rfl, rfl, _, rfl⟩

/-- A COMMAND frame of station 9 with its CRC. -/
def commandFrame (payload : List Byte) : BusFrame :=
  let bare : BusFrame :=
    { cls := 0#2, station := 9#4, length := byte payload.length, payload := payload, crc := 0#16, endField := 127#7 }
  { bare with crc := crc16 (coveredBits bare) }

/-- MODE SWEEP to stations 2 and 5. -/
def modeSweep : BusFrame := commandFrame [0x00#8, 0x24#8, 1#8, 4#8]

/-- WAKE to station 2. -/
def wake2 : BusFrame := commandFrame [0x00#8, 0x04#8, 7#8]

/-- The command that MODE SWEEP puts in the queue. -/
def sweepCommand : Command := { sender := 9, kind := .mode 4#8 }

/-- The station in STOWING with a command queue, following a frame, its discard number at 255. -/
def queued (q : List Command) : State :=
  { hearing with ctl := { ready.ctl with mode := .stowing, queue := q, discard := 255 } }

set_option maxRecDepth 8000 in
theorem witness_CommandFramesReachTheQueue :
    hearing.takeable = false ∧ (queued [sweepCommand, sweepCommand, sweepCommand]).takeable = false ∧
      (queued [sweepCommand, sweepCommand, sweepCommand, sweepCommand]).takeable = false ∧
      hearing.link.receivingFrame = true ∧ takenCommand modeSweep = some (0x24, sweepCommand) ∧
      addressed 0x24 hearing.loader.station = true ∧ hearing.link.state ≠ .waking ∧
      (queued [sweepCommand, sweepCommand, sweepCommand]).ctl.queue.length < 4 ∧
      4 ≤ (queued [sweepCommand, sweepCommand, sweepCommand, sweepCommand]).ctl.queue.length ∧
      (after (.commandFrameReceived now0 modeSweep)
        (queued [sweepCommand, sweepCommand, sweepCommand, sweepCommand])).ctl.discard = 0 := by decide

/-- The station in a mode with two commands waiting. -/
def twoWaiting (mode : Mode) : State :=
  { ready with
    ctl :=
      { ready.ctl with
        mode := mode, queue := [{ sender := 9, kind := .limit 600 }, { sender := 9, kind := .mode 3#8 }], limit := 700 } }

/-- R132: what is takeable is taken before the next command, in its order, at the moment it became so; a head that is not takeable
blocks the queue; the row of another kind takes nothing of its own. -/
theorem witness_CommandFramesReachTheQueue_takes :
    (twoWaiting .sweep).takeable = true ∧ (twoWaiting .warmup).takeable = true ∧ (twoWaiting .standby).takeable = false ∧
      (twoWaiting .warmup).takeOne.takeable = false ∧ isReset (.driveStep now0) = false ∧ isTakeRow (.driveStep now0) = false ∧
      (twoWaiting .sweep).takeDue.ctl.mode = .stowing ∧ (twoWaiting .sweep).takeDue.ctl.queue = [] ∧
      (after (.driveStep now0) (twoWaiting .sweep)).ctl.mode = .stowing ∧
      (after (.driveStep now0) (twoWaiting .sweep)).ctl.limit = 600 ∧
      (after (.driveStep now0) (twoWaiting .warmup)).ctl.queue = [{ sender := 9, kind := .mode 3#8 }] ∧
      (after (.limit now0) (twoWaiting .sweep)).ctl.queue = [{ sender := 9, kind := .mode 3#8 }] := by decide

/-- R132: the LIMIT and the CLEAR behind it are both taken before time passes, so the link's 2000 ms are tested at 100 s. -/
theorem test_heads_are_taken_before_time_passes :
    let link : Link := { Link.reset with state := .silenced, latched := true, clashTimer := some 98000001 }
    let s : State :=
      { ready with
        link := link
        ctl := { ready.ctl with
          queue := [{ sender := 9, kind := .limit 600 }, { sender := 9, kind := .clear }]
          faults := [{ source := .link, code := .clash, state := .latched }] } }
    (after (.limit { now0 with dt := 2000000 }) s).ctl.queue = [] ∧
      (after (.limit { now0 with dt := 2000000 }) s).ctl.limit = 600 ∧
      (after (.limit { now0 with dt := 2000000 }) s).link.state = .silenced ∧
      (after (.limit now0) s).ctl.queue = [{ sender := 9, kind := .clear }] := by decide

set_option maxRecDepth 8000 in
/-- 11, section 11.3: the kinds and their arguments, a kind and a length that are none, and the mask bits of stations 1 to 14. -/
theorem witness_CommandFramesReachTheQueue_layout :
    takenCommand (commandFrame [0x00#8, 0x04#8, 3#8, 0x02#8, 0x58#8]) = some (4, { sender := 9, kind := .limit 600 }) ∧
      takenCommand (commandFrame [0x80#8, 0x01#8, 6#8]) = some (0x8001, { sender := 9, kind := .clear }) ∧
      takenCommand (commandFrame [0x00#8, 0x04#8, 8#8]) = none ∧
      takenCommand (commandFrame [0x00#8, 0x04#8, 6#8, 0#8]) = none ∧ addressed 0x4002 1 = true ∧
      addressed 0x4002 14 = true ∧ addressed 0x8001 0 = false ∧ addressed 0x8001 15 = false := by decide

/-- The station asleep, its receiver awake and following a frame. -/
def dozing : State :=
  { hearing with
    link := { hearing.link with state := .waking, wakeTimer := some 98000000, periodTimer := none }
    ctl := { ready.ctl with mode := .standby }
    conv := { ready.conv with place := none } }

set_option maxRecDepth 8000 in
theorem witness_CommandFramesReachTheQueue_wake :
    dozing.takeable = false ∧
      dozing.link.receivingFrame = true ∧ takenCommand wake2 = some (0x04, { sender := 9, kind := .wake }) ∧
      addressed 0x04 dozing.loader.station = true ∧ dozing.link.state = .waking ∧ dozing.ctl.mode = .standby ∧
      dozing.link.latched = false ∧ (after (.commandFrameReceived now0 wake2) dozing).ctl.mode = .warmup ∧
      (after (.commandFrameReceived now0 modeSweep) dozing).ctl.mode = .standby ∧ addressed 0x24 7 = false := by decide

/-- A frame of a class and a length byte, its payload zeros and its CRC wrong. -/
def badFrame (cls : BitVec 2) (length : Nat) (endField : BitVec 7) : BusFrame :=
  { cls := cls, station := 5#4, length := byte length, payload := List.replicate length 0#8, crc := 1#16,
    endField := endField }

/-- What a discarded frame leaves counted. -/
def countedAfter (cls : BitVec 2) (length : Nat) (endField : BitVec 7) : Nat :=
  (after (.frameDiscard now0 (badFrame cls length endField)) hearing).link.recessive

set_option maxRecDepth 8000 in
theorem witness_ReceiverFollowsTheBus :
    hearing.takeable = false ∧ ready.takeable = false ∧ hearing.link.receivingFrame = true ∧
      (badFrame 1#2 6 127#7).payload.length = (badFrame 1#2 6 127#7).length.toNat ∧
      takenState (badFrame 1#2 6 127#7) = none ∧ takenCommand (badFrame 1#2 6 127#7) = none ∧
      ready.link.state.receives = true ∧ ready.link.receiver = .idle ∧ ready.link.inFlight = none ∧
      countedAfter 1#2 6 127#7 = 7 ∧ countedAfter 1#2 29 127#7 = 7 ∧ countedAfter 1#2 5 127#7 = 0 ∧
      countedAfter 1#2 30 127#7 = 0 ∧ countedAfter 0#2 3 127#7 = 7 ∧ countedAfter 0#2 5 127#7 = 7 ∧
      countedAfter 0#2 2 127#7 = 0 ∧ countedAfter 0#2 6 127#7 = 0 ∧ countedAfter 2#2 5 127#7 = 0 ∧
      countedAfter 1#2 6 119#7 = 3 ∧ countedAfter 1#2 6 126#7 = 0 := by decide

/-- The station with its receiver hunting, `n` recessive bits counted. -/
def hunting (n : Nat) : State := { ready with link := { ready.link with receiver := .hunting, recessive := n } }

theorem witness_ReceiverFollowsTheBus_idle :
    (hunting 7).takeable = false ∧
      (hunting 7).link.state.receives = true ∧ (hunting 7).link.receiver = .hunting ∧ (hunting 7).link.inFlight = none ∧
      11 ≤ (if false then 4 else (hunting 7).link.recessive + 4) ∧
      11 ≤ (if true then 11 else (hunting 7).link.recessive + 11) ∧
      (after (.busIdle now0 false 4) (hunting 7)).link.receiver = .idle ∧
      (after (.busIdle now0 false 3) (hunting 7)).link.receiver = .hunting := by decide

/-- The own frame of this moment. -/
def own : OwnFrame := { snap := ready.snapshot, discard := 0 }

theorem witness_FramesAreBuiltAndStarted :
    ready.takeable = false ∧
      ready.link.state = .active ∧ ready.link.periodTimer = some 99980000 ∧
      99980000 + ready.cfg.general.periodCode * 10000 ≤ ready.now + now0.dt ∧ ready.link.receiver = .idle ∧
      ({ ready.link with pending := some own } : Link).pending = some own ∧ ready.link.inFlight = none ∧
      (after (.busIdleStart now0) { ready with link := { ready.link with pending := some own } }).link.inFlight =
        some own := by decide

/-- The snapshot in a drive state, blind or not. -/
def snapOf (st : DriveState) (blind : Bool) : StateFrame := (driven { ready.drive with state := st, blind := blind }).snapshot

theorem witness_FramesAreBuiltAndStarted_snapshot :
    (snapOf .standstill false).claim = true ∧ (snapOf .standstill false).pace = some 0 ∧ (snapOf .standstill true).pace = none ∧
      (snapOf .yielded false).claim = false ∧ (snapOf .yielded false).budget = none ∧
      (snapOf .standstill false).budget = some 0 ∧ (snapOf .standstill false).demand = some 0 ∧
      ready.snapshot.brushes.length = 2 ∧ (brushing Brush.reset).snapshot.brushes.length = 1 ∧
      ready.snapshot.spray = some { state := 0, tankLow := false, opened := [] } ∧
      (spraying { ready.spray with state := .empty }).snapshot.spray = some { state := 4, tankLow := true, opened := [] } ∧
      (withRecord .spray .dryRun .latched).snapshot.faults = [{ source := 6, state := 2, code := 21 }] := by decide

/-- The station with its own frame in flight after `n` abandons. -/
def sending (n : Nat) : State :=
  { ready with link := { ready.link with inFlight := some own, receiver := .receiving, abandons := n } }

set_option maxRecDepth 8000 in
theorem witness_FramesAreLostAndAbandoned :
    (sending 6).takeable = false ∧ (sending 7).takeable = false ∧
      (sending 6).link.inFlight = some own ∧ 7 ≤ 7 ∧ 7 < own.bits ∧ (sending 6).link.state = .active ∧
      (sending 6).link.finishing = false ∧ (sending 6).link.abandons < 7 ∧ (sending 7).link.abandons = 7 ∧
      (sending 7).ctl.recordState .link = none ∧ (sending 7).ctl.linkCount.count < 3 ∧
      (after (.bitError now0 7) (sending 7)).link.state = .listenOnly ∧
      (after (.arbitrationLoss now0 6) (sending 7)).link.pending = some own := by decide

set_option maxRecDepth 8000 in
theorem witness_FramesAreLostAndAbandoned_latched :
    let s := { sending 7 with ctl := { ready.ctl with linkCount := { count := 3, window := none } } }
    s.takeable = false ∧
      s.link.inFlight = some own ∧ s.link.state = .active ∧ s.link.finishing = false ∧ s.link.abandons = 7 ∧
      s.ctl.recordState .link = none ∧ s.ctl.linkCount.count = 3 ∧
      (after (.bitError now0 7) s).link.latched = true := by decide

/-- An own frame that carried the overrun flag with a discard number, at its end. -/
def reported (discard : Nat) : State :=
  { withRecord .link .clash .recovering with
    link := { (sending 0).link with inFlight := some { snap := { ready.snapshot with overrun := true }, discard := discard } }
    ctl := { (withRecord .link .clash .recovering).ctl with overrun := true } }

theorem witness_CompletionClearsWhatItReported :
    (reported 0).takeable = false ∧
      (reported 0).link.inFlight = some { snap := { ready.snapshot with overrun := true }, discard := 0 } ∧
      (reported 0).ctl.discard = 0 ∧ (reported 0).link.state = .active ∧ (reported 0).link.finishing = false ∧
      (reported 0).ctl.recordState .link = some .recovering ∧
      (after (.sentToCompletion now0) (reported 0)).ctl.overrun = false ∧
      (after (.sentToCompletion now0) (reported 255)).ctl.overrun = true := by decide

theorem witness_CompletionClearsWhatItReported_form : (reported 0).ctl.Wf :=
  ⟨by decide, by decide, fun k => by cases k <;> decide, by decide, by decide, by decide⟩

/-- The station with its link stopped in a state by an ACTIVE record, its timer at its end. -/
def stopped (st : LinkState) (latched : Bool) : State :=
  { withRecord .link .clash .active with
    link :=
      { Link.reset with
        state := st, latched := latched, listenTimer := some 99000000, clashTimer := some 98000000,
        wakeTimer := some 98000000 } }

theorem witness_LinkTimersEnd :
    (stopped .listenOnly false).takeable = false ∧
      (stopped .listenOnly false).link.state = .listenOnly ∧
      (stopped .listenOnly false).link.listenTimer = some 99000000 ∧ 99000000 + 1000000 ≤ ready.now + now0.dt ∧
      (stopped .silenced false).link.clashTimer = some 98000000 ∧ 98000000 + 2000000 ≤ ready.now + now0.dt ∧
      (stopped .silenced false).ctl.recordState .link = some .active ∧ (stopped .dozing false).link.inFlight = none ∧
      (stopped .waking false).link.wakeTimer = some 98000000 ∧
      (after (.listenTimerEnd now0) (stopped .listenOnly false)).link.state = .active ∧
      (after (.listenTimerEnd now0) (stopped .listenOnly true)).link.state = .listenOnly ∧
      (after (.clashQuietEnd now0) (stopped .silenced false)).link.state = .active ∧
      (after (.receiverWake now0) (stopped .dozing false)).link.state = .waking ∧
      (after (.wakeWindowEnd now0) (stopped .waking false)).link.state = .dozing := by decide

/-- A STATE frame of station 2 sent by another module. -/
def frame2 : StateFrame := { frame5 with station := 2 }

set_option maxRecDepth 8000 in
theorem witness_OwnNumberHeardIsAClash :
    let hear (st : LinkState) : State :=
      { stopped st false with link := { (stopped st false).link with receiver := .receiving } }
    (hear .active).takeable = false ∧
      (hear .active).link.receivingFrame = true ∧ (hear .listenOnly).link.receivingFrame = true ∧
      (hear .silenced).link.receivingFrame = true ∧ (hear .waking).link.receivingFrame = true ∧
      takenState frame2.onBus = some frame2 ∧ frame2.station = (hear .active).loader.station ∧ 1 ≤ frame2.station ∧
      frame2.station ≤ 14 ∧ (after (.stateFrameReceived now0 frame2.onBus) (hear .active)).link.state = .silenced ∧
      (after (.stateFrameReceived now0 frame2.onBus) (hear .waking)).link.state = .waking := by decide

/-! ### Witnesses: the mode controller -/

/-- The station in a mode, its timers at their ends. -/
def inMode (mode : Mode) : State :=
  { ready with
    ctl := { ready.ctl with mode := mode, warmupTimer := some 98000000, restTimer := some 99000000, ignitionTimer := some 98000000 } }

/-- The station asleep, its link dozing, a SUPPLY condition standing or not. -/
def asleep (low : Bool) : State :=
  { inMode .standby with
    link := { Link.reset with state := .dozing }
    out := { ready.out with supply := if low then .low else .normal } }

theorem witness_ModeCheckMovesTheStation :
    (inMode .stowing).takeable = false ∧ (asleep true).takeable = false ∧ (inMode .warmup).takeable = false ∧
      (inMode .stowing).loader.state = .done ∧ (inMode .stowing).ctl.mode = .stowing ∧
      (inMode .stowing).brushesFinished = true ∧ now0.pins.ignition = true ∧ (asleep true).ctl.mode = .standby ∧
      (asleep true).link.state = .dozing ∧ (asleep true).link.latched = false ∧ (asleep true).supplyLow = true ∧
      (inMode .warmup).ctl.warmupTimer = some 98000000 ∧
      98000000 + (inMode .warmup).cfg.general.warmup * 1000 ≤ ready.now + now0.dt ∧
      (inMode .warmup).supplyLow = false ∧
      (after (.modeCheck now0) (inMode .stowing)).ctl.mode = .transport ∧
      (after (.modeCheck now0) (asleep true)).drive.state = .held ∧
      (after (.warmupEnd now0) (inMode .warmup)).ctl.mode = .parked := by decide

theorem witness_RestAndIgnitionTimersEnd :
    (inMode .parking).takeable = false ∧ (inMode .limp).takeable = false ∧
      (inMode .parking).loader.state = .done ∧ (inMode .parking).brushesFinished = true ∧ (inMode .parking).atRest = true ∧
      (inMode .parking).ctl.restTimer = some 99000000 ∧ 99000000 + 1000000 ≤ ready.now + now0.dt ∧
      (inMode .limp).ctl.mode.timesIgnition = true ∧ (inMode .sweep).ctl.mode.timesIgnition = true ∧
      keyOff.pins.ignition = false ∧ (inMode .limp).ctl.ignitionTimer = some 98000000 ∧
      98000000 + 2000000 ≤ ready.now + keyOff.dt ∧
      (after (.restTimerEnd now0) (inMode .parking)).ctl.mode = .parked ∧
      (after (.restTimerEnd now0) (inMode .shutdown)).ctl.mode = .warmup ∧
      (after (.ignitionTimerEnd keyOff) (inMode .limp)).ctl.mode = .standby ∧
      (after (.ignitionTimerEnd keyOff) (inMode .sweep)).ctl.mode = .shutdown := by decide

theorem witness_RestAndIgnitionTimersEnd_rest :
    (inMode .sweep).takeable = false ∧ (inMode .sweep).loader.state = .done ∧ now0.pins.ignition = true ∧
      (inMode .sweep).atRest = true ∧ (after (.modeCheck now0) (inMode .sweep)).ctl.restTimer = some 99000000 ∧
      (after (.modeCheck now0) { inMode .parked with capture := (rolling0 100) }).ctl.restTimer = none := by decide

/-- The station in SHUTDOWN with its channels in other states. -/
def ending (d : DriveState) (b : BrushState) (x : SprayState) : State :=
  { inMode .shutdown with
    drive := { ready.drive with state := d }
    brush0 := { Brush.reset with state := b, code := some .stall, trim := 40 }
    spray := { ready.spray with state := x } }

theorem witness_StandbyEntryQuietsEveryBlock_channels :
    let t (d : DriveState) (b : BrushState) (x : SprayState) : State := after (.restTimerEnd keyOff) (ending d b x)
    (ending .yielded .latched .latched).takeable = false ∧ (ending .yielded .latched .latched).brushesFinished = true ∧
      (ending .yielded .latched .latched).atRest = true ∧ (t .yielded .latched .latched).ctl.mode = .standby ∧
      (t .yielded .latched .latched).drive.state = .yielded ∧ (t .yielded .latched .latched).brush0.state = .latched ∧
      (t .yielded .latched .latched).spray.state = .latched ∧ (t .held .waiting .paused).drive.state = .standstill ∧
      (t .held .waiting .paused).brush0.state = .stowed ∧ (t .held .fault .fault).spray.state = .off ∧
      (t .held .fault .fault).brush0.code = some .stall ∧ (t .latched .fault .disabled).drive.state = .latched ∧
      (t .latched .fault .disabled).spray.state = .disabled := by decide

theorem witness_StandbyEntryQuietsEveryBlock_counts : (inMode .shutdown).ctl.Wf :=
  ⟨by decide, by decide, fun k => by cases k <;> decide, by decide, by decide, by decide⟩

theorem witness_StandbyEntryQuietsEveryBlock :
    (inMode .shutdown).takeable = false ∧
      (inMode .shutdown).loader.state = .done ∧ (inMode .shutdown).ctl.mode = .shutdown ∧
      (inMode .shutdown).brushesFinished = true ∧ (inMode .shutdown).atRest = true ∧
      (inMode .shutdown).ctl.restTimer = some 99000000 ∧ 99000000 + 1000000 ≤ ready.now + keyOff.dt ∧
      keyOff.pins.ignition = false ∧ (inMode .shutdown).link.state = .active ∧
      (after (.restTimerEnd keyOff) (inMode .shutdown)).link.state = .dozing := by decide

/-- The station in a mode with one command waiting. -/
def given (mode : Mode) (kind : CmdKind) : State :=
  { ready with ctl := { ready.ctl with mode := mode, queue := [{ sender := 9, kind := kind }] } }

theorem witness_ModeCommandMovesByTheTable :
    (given .sweep (.mode 3#8)).ctl.queue = { sender := 9, kind := .mode 3#8 } :: [] ∧
      (after (.mode now0) (given .sweep (.mode 3#8))).ctl.mode = .stowing ∧
      (after (.mode now0) (given .parked (.mode 8#8))).ctl.mode = .shutdown ∧
      (after (.mode now0) (given .transport (.mode 2#8))).ctl.mode = .parking ∧
      (after (.mode now0) (given .sweep (.mode 5#8))).ctl.mode = .sweep ∧
      (after (.mode now0) (given .limp (.mode 4#8))).ctl.mode = .limp := by decide

theorem witness_SettingCommandsAreTaken :
    (given .sweep .wake).ctl.queue = { sender := 9, kind := .wake } :: [] ∧ (given .sweep .wake).ctl.mode ≠ .standby ∧
      (after (.direction now0) (given .sweep (.direction 2#8))).ctl.requested = .rev ∧
      (after (.direction now0) (given .sweep (.direction 3#8))).ctl.requested = .fwd ∧
      (after (.limit now0) (given .sweep (.limit 4001))).ctl.limit = 4000 ∧
      (after (.limit now0) (given .sweep (.limit 600))).ctl.ownCap = 600 ∧
      (after (.brush now0) (given .sweep (.brush 0xFE#8))).ctl.select0 = false ∧
      (after (.spray now0) (given .sweep (.spray 1#8 101#8))).ctl.sprayRate = 100 ∧
      (after (.wake now0) (given .sweep .wake)).ctl.queue = [] := by decide

/-- A head is taken alone at its own moment, and later where the one behind it is not takeable. -/
theorem witness_SettingCommandsAreTaken_alone :
    (twoWaiting .sweep).takesAlone now0 ∧ (twoWaiting .warmup).takesAlone { now0 with dt := 2000000 } ∧
      (given .sweep .clear).takesAlone now0 ∧ (given .sweep (.mode 3#8)).takesAlone now0 :=
  ⟨.inl rfl, .inr (by decide), .inl rfl, .inl rfl⟩

/-- The station of 07's "A CLEAR over three sources", its broom LATCHED at a pressure, a CLEAR waiting. -/
def cleared (press : Nat) : State :=
  State.press0At
    { given .sweep .clear with
      brush0 := { Brush.reset with state := .latched, code := some .overpressure }
      ctl :=
        { (given .sweep .clear).ctl with
          faults :=
            [{ source := .brush0, code := .overpressure, state := .latched },
             { source := .spray, code := .dryRun, state := .recovering },
             { source := .link, code := .clash, state := .active }]
          brush0Count := { count := 3, window := none }, sprayCount := { count := 2, window := none }
          linkCount := { count := 1, window := none } } }
    press

theorem witness_ClearTestsTheLatchedSources_form : (cleared 1474).ctl.Wf :=
  ⟨by decide, by decide, fun k => by cases k <;> decide, by decide, by decide, by decide⟩

theorem witness_ClearTestsTheLatchedSources :
    let s := cleared 1474
    let t := after (.clear now0) s
    s.ctl.queue = { sender := 9, kind := .clear } :: [] ∧ s.ctl.mode ≠ .standby ∧
      s.ctl.recordState (sourceOf .spray) ≠ some .latched ∧
      s.ctl.record .brush0 = some { source := .brush0, code := .overpressure, state := .latched } ∧
      s.brush0.state = .latched ∧ (s.brushIn .c0).usable = true ∧ s.pressure .c0 ≤ (s.cfg.brush .c0).pLim ∧
      (cleared 3000).cfg.brush0.pLim < (cleared 3000).pressure .c0 ∧
      t.ctl.faults = [{ source := .spray, code := .dryRun, state := .recovering },
        { source := .link, code := .clash, state := .active }] ∧
      t.brush0.state = .raising ∧ t.ctl.sprayCount.count = 0 ∧ t.ctl.linkCount.count = 0 ∧
      (after (.clear now0) (cleared 3000)).brush0.state = .latched := by decide

/-- A CLEAR waiting with one LATCHED record. -/
def latchedBy (src : Source) (code : FaultCode) : State :=
  { given .sweep .clear with
    ctl := { (given .sweep .clear).ctl with faults := [{ source := src, code := code, state := .latched }] } }

/-- The drive's tests at a CLEAR: a coil latch with the pedal up or pressed, blindness in motion, a YIELDED drive. -/
theorem witness_ClearTestsTheLatchedSources_drive :
    let coil (pedal : Nat) : State :=
      { latchedBy .drive .coilShort with
        drive := { ready.drive with state := .latched, coilLatch := true, pedal := pedal, pedalFault := true } }
    let blind (st : DriveState) : State :=
      { latchedBy .drive .wheelSensor with drive := { ready.drive with state := st, blind := true } }
    let yielded (claim : Bool) : State :=
      let s := latchedBy .drive .claim
      { s with
        drive := { ready.drive with state := .yielded }
        peers := s.peers.map fun p =>
          if p.station = 1 then { peer5 with station := 1, fields := peer5.fields.map fun f => { f with claim := claim } } else p }
    let pedal := { latchedBy .drive .pedal with
      ctl := { (given .sweep .clear).ctl with faults := [{ source := .drive, code := .pedal, state := .active }] } }
    (coil 0).ctl.recordState .drive = some .latched ∧ (after (.clear now0) (coil 0)).drive.state = .standstill ∧
      (after (.clear now0) (coil 0)).ctl.faults = [{ source := .drive, code := .pedal, state := .active }] ∧
      (after (.clear now0) (coil 1)).drive.state = .latched ∧ (after (.clear now0) (blind .standstill)).drive.blind = false ∧
      (after (.clear now0) (blind .driving)).drive.blind = true ∧
      (after (.clear now0) (yielded false)).drive.state = .standstill ∧
      (after (.clear now0) (yielded true)).drive.state = .yielded ∧
      (after (.clear now0) pedal).ctl.faults = [{ source := .drive, code := .pedal, state := .active }] := by decide

/-- The brush's and the spray's tests at a CLEAR by their codes. -/
theorem witness_ClearTestsTheLatchedSources_codes :
    let brush (code : FaultCode) (st : ConvStatus) : State :=
      { latchedBy .brush0 code with
        brush0 := { Brush.reset with state := .latched, code := some code }
        conv := { ready.conv with press0 := { value := 4000, status := st } } }
    let spray (code : FaultCode) (st : ConvStatus) : State :=
      { latchedBy .spray code with
        spray := { ready.spray with state := .latched, code := some code }
        conv := { ready.conv with tank := { value := 2464, status := st } } }
    (brush .sensor .settling).ctl.record .brush0 = some { source := .brush0, code := .sensor, state := .latched } ∧
      (after (.clear now0) (brush .sensor .settling)).brush0.state = .raising ∧
      (after (.clear now0) (brush .sensor .outOfRange)).brush0.state = .latched ∧
      (after (.clear now0) (brush .noContact .outOfRange)).brush0.state = .raising ∧
      (after (.clear now0) (brush .stall .outOfRange)).brush0.state = .latched ∧
      (spray .sensor .valid).ctl.record .spray = some { source := .spray, code := .sensor, state := .latched } ∧
      (after (.clear now0) (spray .sensor .valid)).spray.state = .off ∧
      (after (.clear now0) (spray .sensor .outOfRange)).spray.state = .latched ∧
      (after (.clear now0) (spray .dryRun .outOfRange)).spray.state = .off ∧
      (after (.clear now0) { spray .dryRun .valid with out := { ready.out with supply := .low } }).spray.state = .held ∧
      (after (.clear now0) (spray .dryRun .valid)).spray.code = some .dryRun := by decide

theorem witness_ClearTestsTheLatchedSources_drive_form : (latchedBy .drive .coilShort).ctl.Wf :=
  ⟨by decide, by decide, fun k => by cases k <;> decide, by decide, by decide, by decide⟩

/-- The station with its link LATCHED by a clash last heard at a moment, a CLEAR waiting. -/
def clashed (at_ : Nat) : State :=
  { given .sweep .clear with
    link := { Link.reset with state := .silenced, latched := true, clashTimer := some at_ }
    ctl := { (given .sweep .clear).ctl with
      faults := [{ source := .link, code := .clash, state := .latched }], linkCount := { count := 3, window := none } } }

theorem witness_ClearTestsTheLatchedSources_link :
    (clashed 98000000).ctl.recordState .link = some .latched ∧ 98000000 + 2000000 ≤ ready.now + now0.dt ∧
      ready.now + now0.dt < 98000001 + 2000000 ∧
      (after (.clear now0) (clashed 98000000)).link.state = .active ∧
      (after (.clear now0) (clashed 98000001)).link.state = .silenced := by decide

theorem witness_ClearTestsTheLatchedSources_window :
    let s := { ready with ctl := { ready.ctl with sprayCount := { count := 2, window := some 40000000 } } }
    s.takeable = false ∧
      s.ctl.recordState (sourceOf .spray) ≠ some .latched ∧ (s.ctl.recovery .spray).window = some 40000000 ∧
      40000000 + 60000000 ≤ s.now + now0.dt ∧
      (after (.windowTimerExpiry now0 .spray) s).ctl.sprayCount.count = 0 := by decide

/-! ### Witnesses: the capture unit -/

/-- The wheel after the third row of 08's worked sequence, its reference edge `ago` µs back. -/
def rolling (ago : Nat) : State :=
  { ready with
    capture :=
      { ready.capture with
        wheel :=
          { reference := some (100000000 - ago), history := [10000, 12000, 15000, 9000], rate := 469, zeroRate := false,
            zeroTimer := some (100000000 - ago) } } }

/-- At once, WHEEL_B active. -/
def backward : Moment := { dt := 0, pins := { keyOn with wheelB := true } }

theorem witness_EdgesFormPeriodsAndRates :
    ready.takeable = false ∧ (rolling 49).takeable = false ∧ (rolling 50).takeable = false ∧
      ready.captures .wheel = true ∧ ready.capture.wheel.zeroTimer = none ∧ ready.capture.wheel.reference = none ∧
      (rolling 49).captures .wheel = true ∧ (rolling 49).capture.wheel.zeroTimer = some 99999951 ∧
      (rolling 49).now + now0.dt ≤ 99999951 + (rolling 49).cfg.zeroTimeout .wheel * 1000 ∧
      (rolling 49).now + now0.dt - 99999951 < 50 ∧ 50 ≤ (rolling 50).now + now0.dt - 99999950 ∧
      backward.pins.wheelB ≠ (rolling 50).capture.reverse ∧ now0.pins.wheelB = (rolling 50).capture.reverse ∧
      (after (.risingEdge now0 .wheel) (rolling 49)).capture.wheel.rate = 469 ∧
      (after (.risingEdge now0 .wheel) (rolling 25000)).capture.wheel.rate = 354 ∧
      (after (.risingEdge backward .wheel) (rolling 40000)).capture.pace = 0 ∧
      (after (.risingEdge now0 .wheel) (rolling 500000)).capture.wheel.history = [12000, 15000, 9000, 500000] ∧
      (after (.zeroRateTimeout now0 .wheel) (rolling 500000)).capture.wheel.zeroRate = true := by decide

theorem witness_EdgesFormPeriodsAndRates_timeout :
    (rolling 500000).takeable = false ∧
      (rolling 500000).captures .wheel = true ∧ ((rolling 500000).capture.input .wheel).zeroTimer = some 99500000 ∧
      99500000 + (rolling 500000).cfg.zeroTimeout .wheel * 1000 ≤ (rolling 500000).now + now0.dt := by decide

/-! ### Witnesses: the converter and the output stage -/

/-- The station with its scan at a conversion. -/
def converting (k : Slot) : State := { ready with conv := { ready.conv with place := some k, coarse := some 100 } }

theorem converting_forms (k : Slot) : (converting k).Settled ∧ (converting k).out.Wf :=
  ⟨⟨rfl, rfl, rfl, rfl, rfl⟩, ready_out⟩

theorem witness_SinglePassWritesItsEntry :
    (converting .tank).takeable = false ∧
      (converting .tank).conv.place = some .tank ∧ (converting .tank).ctl.mode ≠ .standby ∧
      (after (.singleConversion now0 26#8) (converting .tank)).conv.tank = { value := 416, status := .valid } ∧
      (after (.singleConversion now0 5#8) (converting .tank)).conv.tank = { value := 80, status := .outOfRange } ∧
      (after (.singleConversion now0 0#8) (converting .senseB1)).conv.senseB1 = { value := 0, status := .valid } := by decide

theorem witness_TwoPassConversionOfThePressures :
    (converting .press0Coarse).takeable = false ∧ (converting .press0Fine).takeable = false ∧
      (converting .press0Coarse).Settled ∧ (converting .press0Coarse).out.Wf ∧
      (converting .press0Coarse).conv.place = some .press0Coarse ∧ (converting .press0Fine).Settled ∧
      (converting .press0Fine).out.Wf ∧ (converting .press0Fine).conv.place = some .press0Fine ∧
      (converting .press0Fine).conv.coarse = some 100 ∧ 100 < 256 ∧
      (after (.fineConversion now0 108#8) (converting .press0Fine)).conv.press0 = { value := 1604, status := .valid } ∧
      (after (.fineConversion now0 255#8) (converting .press0Fine)).conv.press0 = { value := 1600, status := .settling } :=
  ⟨rfl, rfl, (converting_forms _).1, (converting_forms _).2, rfl, (converting_forms _).1, (converting_forms _).2, rfl, rfl, by decide,
    by decide, by decide⟩

/-- The station with a coil hold on its reverse coil, waiting for the forward coil's next period. -/
def holding : State := driven { ready.drive with engaged := .rev, hold := some .rev }

theorem witness_PeriodStartLoadsTheDuty :
    holding.takeable = false ∧ holding.Settled ∧ holding.out.Wf ∧ (holding.out.coil .driveF).start = some 99995000 ∧
      99995000 + (holding.cfg.coil .driveF).period * 100 ≤ holding.now + now0.dt ∧ holding.drive.hold = some .rev ∧
      (after (.pwmPeriodStart now0 .driveF) holding).drive.hold = none ∧
      (after (.pwmPeriodStart now0 .pump) holding).drive.hold = some .rev :=
  ⟨rfl, ⟨rfl, rfl, rfl, rfl, rfl⟩, ready_out, rfl, by decide, rfl, by decide, by decide⟩

/-- The forward coil at a duty. -/
def coilAt (duty : Nat) : State := { ready with out := { ready.out with driveF := coilOn duty } }

theorem witness_PeriodStartLoadsTheDuty_active :
    (coilAt 1000).out.forcing = false ∧ ((coilAt 1000).out.coil .driveF).shortOff = false ∧
      ((coilAt 1000).out.coil .driveF).running = true ∧ ((coilAt 1000).out.coil .driveF).start = some 99995000 ∧
      (coilAt 1000).coilActive .driveF 100000000 = true ∧ (coilAt 1000).coilActive .driveF 100000500 = true ∧
      (coilAt 999).coilActive .driveF 100000000 = false ∧ (coilAt 200).coilActive .driveF 99995999 = true ∧
      (coilAt 200).coilActive .driveF 99996000 = false := by decide

/-- A sense conversion of a driven output, its open condition 200 ms old. -/
def sensing (k : Slot) : State :=
  { converting k with
    drive := drivingAt 100
    brush0 := sweeping
    out :=
      { ready.out with
        driveF := { coilOn 200 with duty := 1 }, brush0 := { coilOn 200 with openTimer := some 99800000 } } }

theorem witness_CoilFaultsAreReported_short :
    let s := sensing .senseDF
    s.takeable = false ∧
      s.conv.place = some .senseDF ∧ s.ctl.mode ≠ .standby ∧ s.cfg.driveF.shortLevel < (188#8).toNat * 16 ∧
      s.out.forcing = false ∧ s.out.driveF.shortOff = false ∧ 0 < s.out.driveF.duty ∧ s.drive.state = .driving ∧
      (after (.singleConversion now0 188#8) s).drive.state = .latched ∧
      (after (.singleConversion now0 187#8) s).drive.state = .driving := by decide

theorem witness_CoilFaultsAreReported_open :
    let s := sensing .senseB0
    s.takeable = false ∧
      s.conv.place = some .senseB0 ∧ s.ctl.mode ≠ .standby ∧ (12#8).toNat * 16 < (s.cfg.coil (valveOf .c0)).openLevel ∧
      (12#8).toNat * 16 ≤ (s.cfg.coil (valveOf .c0)).shortLevel ∧ 200 ≤ (s.out.coil (valveOf .c0)).duty ∧
      s.out.forcing = false ∧ (s.out.coil (valveOf .c0)).shortOff = false ∧
      (s.out.coil (valveOf .c0)).openArmed = true ∧ (s.out.coil (valveOf .c0)).openTimer = some 99800000 ∧
      99800000 + 200000 ≤ s.now + now0.dt ∧ (s.brush .c0).state = .sweeping ∧ s.ctl.recordState .brush0 = none ∧
      (after (.coilOpenDetect now0 12#8) s).brush0.state = .fault := by decide

/-- Every output at 200, its open condition 200 ms old, and every channel in a state. -/
def sensingAll (k : Slot) (d : DriveState) (b : BrushState) (x : SprayState) : State :=
  let c : CoilOut := { coilOn 200 with openTimer := some 99800000 }
  { converting k with
    drive := { drivingAt 100 with state := d }
    brush0 := { sweeping with state := b }
    brush1 := { sweeping with state := b }
    spray := { ready.spray with state := x }
    out := { ready.out with driveF := c, driveR := c, brush0 := c, brush1 := c, pump := c } }

/-- R18, R50, R88: each owner's report, taken or absorbed by its state. -/
theorem witness_CoilFaultsAreReported_outputs :
    let short (k : Slot) (d : DriveState) (b : BrushState) (x : SprayState) : State :=
      after (.singleConversion now0 188#8) (sensingAll k d b x)
    let opened (k : Slot) : State := after (.coilOpenDetect now0 12#8) (sensingAll k .driving .sweeping .spraying)
    (short .senseDR .held .sweeping .spraying).drive.state = .latched ∧
      (short .senseDR .yielded .sweeping .spraying).drive.coilLatch = true ∧
      (short .senseDR .yielded .sweeping .spraying).drive.state = .yielded ∧
      (short .senseDF .disabled .sweeping .spraying).ctl.faults = [] ∧
      (short .senseB0 .driving .stowed .spraying).brush0.code = some .coilShort ∧
      (short .senseB1 .driving .waiting .spraying).brush1.state = .fault ∧
      (short .senseB1 .driving .held .spraying).ctl.faults = [] ∧
      (short .sensePump .driving .sweeping .off).spray.state = .fault ∧
      (short .sensePump .driving .sweeping .held).spray.state = .held ∧ (opened .senseDF).drive.state = .latched ∧
      (opened .senseDR).ctl.record .drive = some { source := .drive, code := .coilOpen, state := .latched } ∧
      (opened .senseB1).brush1.state = .fault ∧ (opened .sensePump).spray.state = .fault := by decide

/-- A SUPPLY conversion, the start and the release timer at their ends. -/
def supplied (cond : SupplyCondition) : State :=
  { converting .supply with
    brush0 := { sweeping with state := if cond = .low then .held else .sweeping }
    drive := { ready.drive with state := if cond = .low then .held else .standstill }
    out := { ready.out with supply := cond, startTimer := some 99950000, releaseTimer := some 99800000 } }

theorem witness_SupplyConditionStartsAndEnds_start :
    let s := supplied .normal
    s.takeable = false ∧
      s.loader.state = .done ∧ s.ctl.mode ≠ .standby ∧ s.conv.place = some .supply ∧ s.out.supply = .normal ∧
      (53#8).toNat * 16 < (if s.cfg.general.voltage = 0 then 850 else 1700) ∧ s.out.startTimer = some 99950000 ∧
      99950000 + 50000 ≤ s.now + now0.dt ∧ (after (.supplyStart now0 53#8) s).brush0.state = .held ∧
      (after (.supplyStart now0 53#8) s).ctl.ownCap = 0 := by decide

theorem witness_SupplyConditionStartsAndEnds_channels :
    let t (d : DriveState) (b : BrushState) (x : SprayState) : State :=
      after (.supplyStart now0 53#8)
        { supplied .normal with
          drive := { ready.drive with state := d }, brush0 := { sweeping with state := b }
          spray := { ready.spray with state := x } }
    (t .turning .raising .priming).drive.state = .held ∧ (t .turning .raising .priming).brush0.state = .held ∧
      (t .turning .raising .priming).spray.state = .held ∧ (t .yielded .waiting .paused).drive.state = .yielded ∧
      (t .yielded .waiting .paused).brush0.state = .held ∧ (t .yielded .waiting .paused).spray.state = .held ∧
      (t .latched .fault .empty).drive.state = .latched ∧ (t .latched .fault .empty).brush0.state = .fault ∧
      (t .latched .fault .empty).spray.state = .held ∧ (t .disabled .latched .fault).spray.state = .fault := by decide

theorem witness_SupplyConditionStartsAndEnds_release :
    let s := supplied .low
    s.takeable = false ∧
      s.loader.state = .done ∧ s.ctl.mode ≠ .standby ∧ s.conv.place = some .supply ∧ s.out.supply = .low ∧
      (if s.cfg.general.voltage = 0 then 900 else 1800) ≤ (57#8).toNat * 16 ∧ s.out.releaseTimer = some 99800000 ∧
      99800000 + 200000 ≤ s.now + now0.dt ∧ (s.brush .c0).state = .held ∧
      (after (.supplyRelease now0 57#8) s).brush0.state = .raising ∧
      (after (.supplyRelease now0 57#8) s).out.supply = .normal := by decide

/-- On an empty queue the block idles (log 2). -/
theorem test_idle : step ready = .next ready := rfl

end Sys2Proof.Tests
end

/-! The shared limits of the peer table (05): the effective cap (R100) and the drive owner (R101). -/

namespace Sys2Proof.Machine

/-! ### Facts about the records -/

/-- A record that the views read stands in a place that is not the own number's (05, section 5.1). -/
theorem State.mem_others {s : State} {p : Peer} : p ∈ s.others ↔ p ∈ s.peers ∧ s.tableOwn ≠ some p.station := by
  simp [State.others]

theorem Freshness.heard_iff (f : Freshness) : f.heard = true ↔ f = .fresh ∨ f = .stale := by
  cases f <;> simp [Freshness.heard]

theorem DriveState.claims_iff (d : DriveState) :
    d.claims = true ↔ d = .standstill ∨ d = .driving ∨ d = .turning ∨ d = .held ∨ d = .latched := by
  cases d <;> simp [DriveState.claims]

theorem Peer.claims_iff (p : Peer) :
    p.claims = true ↔ (p.fresh = .fresh ∨ p.fresh = .stale) ∧ ∃ f, p.fields = some f ∧ f.claim = true := by
  rw [Peer.claims, Bool.and_eq_true, Freshness.heard_iff]
  cases p.fields <;> simp

/-! ### The effective cap (R100) -/

/-- `least` is the minimum of the list with its top put in front. -/
theorem min?_cons_eq_least (top : Nat) (l : List Nat) : (top :: l).min? = some (least top l) := List.min?_cons'

theorem least_mem (top : Nat) (l : List Nat) : least top l ∈ top :: l :=
  (List.min?_eq_some_iff.mp (min?_cons_eq_least top l)).1

theorem least_le {top v : Nat} {l : List Nat} (h : v ∈ top :: l) : least top l ≤ v :=
  (List.min?_eq_some_iff.mp (min?_cons_eq_least top l)).2 v h

/-- The figures among which the effective cap is the least: the own cap, and what each record adds (R100). -/
def State.capFigures (s : State) : List Nat :=
  s.ctl.ownCap :: s.others.filterMap (Peer.capFigure s.cfg.general.staleCap)

theorem State.effectiveCap_mem (s : State) : s.effectiveCap ∈ s.capFigures := least_mem _ _

theorem State.effectiveCap_le {s : State} {v : Nat} (h : v ∈ s.capFigures) : s.effectiveCap ≤ v := least_le h

theorem State.effectiveCap_le_ownCap (s : State) : s.effectiveCap ≤ s.ctl.ownCap :=
  State.effectiveCap_le (List.mem_cons_self ..)

/-- The demand is cut to the effective cap before the blind cut, and no later stage raises it (R6, R17). -/
theorem State.demandFor_le_effectiveCap (s : State) (d : Dir) : s.demandFor d ≤ s.effectiveCap := by
  unfold State.demandFor
  dsimp only
  split_ifs <;> omega

/-- Settles O38: the statement's list is `State.capFigures`, with what a record adds written out by its freshness. -/
theorem effectiveCapIsTheLeast : Obligations.EffectiveCapIsTheLeast := by
  intro s figures
  have hfig : figures = s.capFigures := by
    rw [State.capFigures, List.filterMap_eq_flatMap_toList]
    refine congrArg (s.ctl.ownCap :: ·) (List.flatMap_congr fun p _ => ?_)
    unfold Peer.capFigure
    cases p.fresh with
    | fresh | stale | absent => rfl
    | silent => cases p.expected <;> rfl
  rw [hfig]
  refine ⟨s.effectiveCap_mem, fun _ => State.effectiveCap_le, fun halone => ?_, s.effectiveCap_le_ownCap.trans,
    s.demandFor_le_effectiveCap⟩
  exact List.mem_singleton.mp (halone ▸ s.effectiveCap_mem)

/-! ### The drive owner (R101) -/

theorem State.mem_claimants {s : State} {n : Nat} :
    n ∈ s.claimants ↔
      (n = s.loader.station ∧ s.drive.state.claims = true) ∨ ∃ p ∈ s.others, p.claims = true ∧ p.station = n := by
  cases h : s.drive.state.claims <;> simp [State.claimants, h, and_assoc]

theorem State.owner_eq_some_iff {s : State} {n : Nat} :
    s.owner = some n ↔ n ∈ s.claimants ∧ ∀ k ∈ s.claimants, n ≤ k :=
  List.min?_eq_some_iff

theorem State.owner_eq_none_iff {s : State} : s.owner = none ↔ ∀ n, n ∉ s.claimants := by
  rw [State.owner, List.min?_eq_none_iff, List.eq_nil_iff_forall_not_mem]

/-- Settles O39: a station claims, as the statement says it, exactly when its number is in `State.claimants`. -/
theorem driveOwnerIsTheLowestClaimant : Obligations.DriveOwnerIsTheLowestClaimant := by
  intro s claims
  have hclaims (n : Nat) : claims n ↔ n ∈ s.claimants := by
    rw [State.mem_claimants, DriveState.claims_iff]
    refine or_congr_right (exists_congr fun p => ?_)
    rw [State.mem_others, Peer.claims_iff]
    constructor
    · rintro ⟨hp, rfl, hown, hclaim⟩
      exact ⟨⟨hp, hown⟩, hclaim, rfl⟩
    · rintro ⟨⟨hp, hown⟩, hclaim, rfl⟩
      exact ⟨hp, rfl, hown, hclaim⟩
  simp only [hclaims]
  exact ⟨fun _ => State.owner_eq_some_iff, State.owner_eq_none_iff⟩

end Sys2Proof.Machine

/-! The converter (08, sections 8.5 to 8.7): the single-pass conversions (R149) and the two-pass conversions of the pressures
(R150, R151). -/

namespace Sys2Proof.Machine

/-! ### The scan and the result table -/

@[simp] theorem Converter.advance_place (x : Converter) : x.advance.place = x.place.map Slot.next := rfl
@[simp] theorem Converter.advance_coarse (x : Converter) : x.advance.coarse = x.coarse := rfl
@[simp] theorem Converter.write_place (x : Converter) (k : Slot) (e : Entry) : (x.write k e).place = x.place := by
  cases k <;> rfl
@[simp] theorem Converter.write_coarse (x : Converter) (k : Slot) (e : Entry) : (x.write k e).coarse = x.coarse := by
  cases k <;> rfl

/-- A write changes its own entry alone, and the place of the scan and the coarse code are no entries. -/
theorem Converter.wroteEntry_write (x : Converter) (k : Slot) (e : Entry) (place : Option Slot) (coarse : Option Nat) :
    WroteEntry x { x.write k e with place := place, coarse := coarse } k e := by
  cases k <;> constructor <;> rfl

theorem Slot.kind_eq_single_iff {k : Slot} :
    k.kind = .single ↔
      k = .pedalA ∨ k = .pedalB ∨ k = .tank ∨ k = .supply ∨ k = .senseDF ∨ k = .senseDR ∨ k = .senseB0 ∨ k = .senseB1 ∨
        k = .sensePump := by
  cases k <;> simp [Slot.kind]

theorem Slot.kind_eq_coarse_iff {k : Slot} : k.kind = .coarse ↔ k = .press0Coarse ∨ k = .press1Coarse := by
  cases k <;> simp [Slot.kind]

theorem Slot.kind_eq_fine_iff {k : Slot} : k.kind = .fine ↔ k = .press0Fine ∨ k = .press1Fine := by
  cases k <;> simp [Slot.kind]

theorem State.atKind_of_place {s : State} {k : Slot} {kind : SlotKind} (hp : s.conv.place = some k) (hk : k.kind = kind) :
    s.atKind kind = true := by
  simp [State.atKind, hp, hk]

/-! ### The entries (R149 to R152) -/

/-- Only the sense inputs have no range check (R152). -/
theorem rangeStatus_of_single {k : Slot} (hk : k.kind = .single) (v : Nat) :
    rangeStatus k v false =
      if k = .pedalA ∨ k = .pedalB ∨ k = .tank ∨ k = .supply then (if v < 82 ∨ 4013 < v then .outOfRange else .valid)
      else .valid := by
  obtain rfl | rfl | rfl | rfl | rfl | rfl | rfl | rfl | rfl := Slot.kind_eq_single_iff.mp hk <;>
    simp [rangeStatus, Slot.coil]

theorem rangeStatus_of_fine {k : Slot} (hk : k.kind = .fine) (v : Nat) (settling : Bool) :
    rangeStatus k v settling = if v < 82 ∨ 4013 < v then .outOfRange else if settling then .settling else .valid := by
  obtain rfl | rfl := Slot.kind_eq_fine_iff.mp hk <;> rfl

/-- The window's lower boundary without the truncation of `Nat` subtraction (R150). -/
theorem windowLow_eq (c : Nat) : windowLow c = if c / 16 = 0 then 0 else if 13 < c / 16 - 1 then 13 else c / 16 - 1 := by
  unfold windowLow
  split_ifs <;> omega

theorem fineEntry_inside {c f : Nat} (k : Slot) (h : ¬((f = 0 ∧ 0 < windowLow c) ∨ (f = 255 ∧ windowLow c < 13))) :
    fineEntry k c f =
      { value := windowLow c * 256 + f * 3, status := rangeStatus k (windowLow c * 256 + f * 3) false } := by
  simp [fineEntry, h]

theorem fineEntry_edge {c f : Nat} (k : Slot) (h : (f = 0 ∧ 0 < windowLow c) ∨ (f = 255 ∧ windowLow c < 13)) :
    fineEntry k c f = { value := c * 16, status := rangeStatus k (c * 16) true } := by
  simp [fineEntry, h]

/-! ### The effects -/

theorem State.single_conv {s : State} {k : Slot} (hp : s.conv.place = some k) (code : Byte) :
    (s.single code).conv = (s.conv.write k (singleEntry k code)).advance := by
  simp [State.single, hp]

/-- Only in STANDBY may a SUPPLY conversion come late (R163). -/
theorem State.lateDue_of_mode {s : State} (h : s.ctl.mode ≠ .standby) : s.lateDue = false := by
  simp [State.lateDue, h]

theorem State.singleOrLate_of_mode {s : State} (h : s.ctl.mode ≠ .standby) (code : Byte) :
    s.singleOrLate code = s.single code := by
  simp [State.singleOrLate, State.lateDue_of_mode h]

theorem State.coarse_of_place {s : State} {k : Slot} (hp : s.conv.place = some k) (code : Byte) :
    s.coarse code = s.setConv { s.conv with place := some k.next, coarse := some code.toNat } := by
  simp [State.coarse, Converter.advance, hp]

theorem State.fine_of_place {s : State} {k : Slot} {c : Nat} (hp : s.conv.place = some k) (hc : s.conv.coarse = some c)
    (code : Byte) :
    s.fine code =
      s.setConv { s.conv.write k (fineEntry k c code.toNat) with place := some k.next, coarse := none } := by
  simp [State.fine, Converter.advance, hp, hc]

/-! ### Events that change the converter alone -/

theorem State.event_due_of_not_takeable {s : State} {m : Moment} {due : State → Bool} {eff : State → State}
    (ht : s.takeable = false) (hd : due (s.arrive m) = true) :
    s.event m due eff = (eff (s.arrive m)).finish s.link.state := by
  have hs := State.takeDue_of_not_takeable ht
  rw [State.event_due (by rw [hs]; exact hd), hs]

/-- No figure that follows reads the converter. -/
theorem State.Settled.setConv {s : State} (h : s.Settled) (x : Converter) : (s.setConv x).Settled :=
  ⟨h.contrib, h.cap, h.silent, h.lamp, h.forcing⟩

/-- An event that leaves the link state and the figures that follow as they are has nothing to set at its end. -/
theorem State.Settled.finish_eq {s : State} (h : s.Settled) (ho : s.out.Wf) : s.finish s.link.state = s := by
  simp [State.finish, h.settle_eq ho]

/-- An event whose effect is on the converter changes nothing else but the moment. -/
theorem State.event_eq_setConv {s : State} {m : Moment} {due : State → Bool} {eff : State → State} {x : Converter}
    (ht : s.takeable = false) (hs : s.Settled) (ho : s.out.Wf) (hd : due (s.arrive m) = true)
    (he : eff (s.arrive m) = (s.arrive m).setConv x) : s.event m due eff = (s.arrive m).setConv x := by
  rw [State.event_due_of_not_takeable ht hd, he]
  exact ((hs.arrive m).setConv x).finish_eq ho

/-! ### The commands -/

theorem exec_singleConversion (m : Moment) (code : Byte) (s : State) :
    exec (.singleConversion m code) s =
      .next (s.event m (fun a => a.atKind .single || a.lateDue) fun a => a.singleOrLate code) := rfl

theorem exec_coarseConversion (m : Moment) (code : Byte) (s : State) :
    exec (.coarseConversion m code) s = .next (s.event m (fun a => a.atKind .coarse) fun a => a.coarse code) := rfl

theorem exec_fineConversion (m : Moment) (code : Byte) (s : State) :
    exec (.fineConversion m code) s = .next (s.event m (fun a => a.atKind .fine) fun a => a.fine code) := rfl

/-- What a single-pass conversion leaves of the converter: the tests that follow the write do not touch it (R149). -/
theorem exec_singleConversion_conv {m : Moment} {code : Byte} {k : Slot} {s : State} (ht : s.takeable = false)
    (hp : s.conv.place = some k) (hm : s.ctl.mode ≠ .standby) (hk : k.kind = .single) :
    ∃ t, exec (.singleConversion m code) s = .next t ∧ t.conv = (s.conv.write k (singleEntry k code)).advance := by
  have hdue : (s.arrive m).atKind .single = true := State.atKind_of_place hp hk
  rw [exec_singleConversion, State.event_due_of_not_takeable ht (by simp [hdue]),
    State.singleOrLate_of_mode (s := s.arrive m) hm]
  exact ⟨_, rfl, by rw [State.finish_conv, State.single_conv (s := s.arrive m) hp, State.arrive_conv]⟩

theorem exec_coarseConversion_of_place {m : Moment} {code : Byte} {k : Slot} {s : State} (ht : s.takeable = false)
    (hs : s.Settled) (ho : s.out.Wf) (hp : s.conv.place = some k) (hk : k.kind = .coarse) :
    exec (.coarseConversion m code) s =
      .next ((s.arrive m).setConv { s.conv with place := some k.next, coarse := some code.toNat }) := by
  rw [exec_coarseConversion]
  exact congrArg _ (State.event_eq_setConv ht hs ho (State.atKind_of_place hp hk)
    (State.coarse_of_place (s := s.arrive m) hp code))

theorem exec_fineConversion_of_place {m : Moment} {code : Byte} {k : Slot} {c : Nat} {s : State} (ht : s.takeable = false)
    (hs : s.Settled) (ho : s.out.Wf) (hp : s.conv.place = some k) (hk : k.kind = .fine) (hc : s.conv.coarse = some c) :
    exec (.fineConversion m code) s =
      .next ((s.arrive m).setConv
        { s.conv.write k (fineEntry k c code.toNat) with place := some k.next, coarse := none }) := by
  rw [exec_fineConversion]
  exact congrArg _ (State.event_eq_setConv ht hs ho (State.atKind_of_place hp hk)
    (State.fine_of_place (s := s.arrive m) hp hc code))

/-- Settles O56: the written entry is `singleEntry`, and its bounds are those of a byte times 16. -/
theorem singlePassWritesItsEntry : Obligations.SinglePassWritesItsEntry := by
  intro m code k s ht hp hm hk
  replace hk := Slot.kind_eq_single_iff.mpr hk
  obtain ⟨t, hexec, hconv⟩ := exec_singleConversion_conv (m := m) (code := code) ht hp hm hk
  have hcode : code.toNat < 256 := code.isLt
  refine ⟨t, singleEntry k code, hexec, ?_, by simp [hconv, hp], by simp [hconv], rfl, ?_, ?_, rangeStatus_of_single hk _⟩
  · rw [hconv]
    exact s.conv.wroteEntry_write k _ _ _
  · exact Nat.mul_mod_left code.toNat 16
  · show code.toNat * 16 ≤ 4080
    omega

/-- Settles O57: the entry of a fine pass is `fineEntry`, and the statement's `low` is `windowLow`. -/
theorem twoPassConversionOfThePressures : Obligations.TwoPassConversionOfThePressures := by
  constructor
  · intro m code k s ht hs ho hp hk
    exact exec_coarseConversion_of_place ht hs ho hp (Slot.kind_eq_coarse_iff.mpr hk)
  · intro m code k c s ht hs ho hp hk hc _
    replace hk := Slot.kind_eq_fine_iff.mpr hk
    refine ⟨_, fineEntry k c code.toNat, windowLow c, exec_fineConversion_of_place ht hs ho hp hk hc,
      s.conv.wroteEntry_write k _ _ _, rfl, rfl, windowLow_eq c, fun hinside => ?_, fun hedge => ?_⟩
    · rw [fineEntry_inside k hinside]
      exact ⟨rfl, by simp [rangeStatus_of_fine hk]⟩
    · rw [fineEntry_edge k hedge]
      exact ⟨rfl, by simp [rangeStatus_of_fine hk]⟩

end Sys2Proof.Machine

/-! The machine (95; 00, "Blocks and how they work together"): a step runs the front command, every command answers at its moment,
reset meets every form, and the figures that follow are kept (R134, R139, R158, R107). -/

namespace Sys2Proof.Machine

/-! ### What a command answers -/

/-- Settles O1: on a queue with a front, `step` is `exec` by definition. -/
theorem stepRunsTheFrontCommand : Obligations.StepRunsTheFrontCommand := by
  intro c rest s h
  simp [step, h, State.withPending]

/-- Settles O11: the answer is `State.toReset`, whose blocks are those of `State.reset`. -/
theorem resetAssertReturnsEveryBlock : Obligations.ResetAssertReturnsEveryBlock :=
  fun m s => ⟨s.toReset m, rfl, rfl, rfl, rfl, rfl, rfl, rfl, rfl, rfl, rfl, rfl, rfl, rfl, rfl⟩

/-- Settles O8: each form is a fact about the reset values. -/
theorem resetMeetsEveryForm : Obligations.ResetMeetsEveryForm := by
  refine ⟨⟨rfl, rfl, rfl, rfl, rfl⟩, ⟨by decide, by decide, fun k => ?_, by decide, by decide, by decide⟩,
    ⟨by decide, by decide, by decide, by decide⟩, ⟨by decide, by decide, .inl rfl, fun h => nomatch h⟩,
    fun k => ?_, ⟨by decide, by decide, by decide⟩⟩
  · cases k <;> decide
  · cases k <;> exact ⟨by decide, fun _ => rfl, fun _ => ⟨rfl, rfl, rfl⟩⟩

/-- No effect touches the queue of commands, the inputs or the time base. -/
theorem effects_keep_surroundings (q : List Instr) (p : Pins) (n : Micros) :
    Effects fun a u => (a.pending = q ∧ a.pins = p ∧ a.now = n) → u.pending = q ∧ u.pins = p ∧ u.now = n := by
  constructor <;> intros <;> simpa

/-- The takes that are due touch neither the queue of commands, nor the inputs, nor the time base. -/
theorem State.takeDue_surroundings (s : State) :
    s.takeDue.pending = s.pending ∧ s.takeDue.pins = s.pins ∧ s.takeDue.now = s.now :=
  (effects_keep_surroundings s.pending s.pins s.now).takeDue (fun _ _ h => by simpa) (fun _ _ h => by simpa)
    ⟨rfl, rfl, rfl⟩

/-- One take touches neither the queue of commands, nor the inputs, nor the time base. -/
theorem State.takeOne_surroundings (s : State) :
    s.takeOne.pending = s.pending ∧ s.takeOne.pins = s.pins ∧ s.takeOne.now = s.now := by
  unfold State.takeOne; split <;> simp

/-- Settles O2: takes, effects and the end of an event leave the surroundings, and `State.arrive` sets the moment. -/
theorem everyCommandAnswersAtItsMoment : Obligations.EveryCommandAnswersAtItsMoment := by
  intro i s
  obtain ⟨t, ht⟩ := exec_next i s
  refine ⟨t, ht, ?_⟩
  obtain ⟨hq, -, hn⟩ := s.takeDue_surroundings
  cases hr : isReset i
  · cases hk : isTakeRow i
    · obtain rfl | ⟨u, hu, rfl⟩ :=
        (effects_keep_surroundings s.pending (moment i).pins (s.now + (moment i).dt)).exec hr hk ht
      · simp [hq, hn]
      · simpa using hu ⟨hq, rfl, congrArg (· + (moment i).dt) hn⟩
    · obtain ⟨-, -, rfl⟩ | rfl := exec_take hk ht
      · simp [s.takeOne_surroundings]
      · simp [hq, hn]
  · cases i <;> cases hr
    cases ht
    exact ⟨rfl, rfl, rfl⟩

/-! ### What the end of every event sets -/

/-- The relation in which every effect stands. -/
theorem effects_any : Effects fun _ _ => True := by constructor <;> intros <;> trivial

section EndOfEvent

variable {P : State → Prop} (hfin : ∀ s b, P (State.finish b s))
include hfin

/-- What the end of every event sets holds after the takes that are due, if it held before. -/
theorem State.takeDue_of_finish {s : State} (hs : P s) : P s.takeDue := by
  unfold State.takeDue
  generalize s.ctl.queue.length = n
  induction n generalizing s with
  | zero => exact hs
  | succ n ih =>
    unfold State.takes
    split
    · exact ih (hfin _ _)
    · exact hs

/-- What the end of every event sets, and time, the queue of commands and reset do not disturb, every step keeps. -/
theorem step_of_finish (harr : ∀ s m, P s → P (State.arrive s m)) (hq : ∀ s q, P s → P (State.withPending s q))
    (hr : ∀ s m, P (State.toReset s m)) {s t : State} (he : step s = .next t) (hs : P s) : P t := by
  unfold step at he
  split at he
  · cases he; exact hs
  · rename_i i rest hp
    have hs := hq s rest hs
    cases hi : isReset i
    · cases hk : isTakeRow i
      · obtain rfl | ⟨u, -, rfl⟩ := effects_any.exec hi hk he
        · exact harr _ _ (State.takeDue_of_finish hfin hs)
        · exact hfin _ _
      · obtain ⟨-, -, rfl⟩ | rfl := exec_take hk he
        · exact harr _ _ (hfin _ _)
        · exact harr _ _ (State.takeDue_of_finish hfin hs)
    · cases i <;> cases hi
      cases he
      exact hr _ _

end EndOfEvent

/-- Every step leaves the figures that follow as their rules make them. -/
theorem step_settled {s t : State} (he : step s = .next t) (hs : s.Settled) : t.Settled :=
  step_of_finish (P := State.Settled) (fun s b => s.finish_settled b) (fun _ m h => h.arrive m)
    (fun _ _ h => ⟨h.contrib, h.cap, h.silent, h.lamp, h.forcing⟩) (fun _ _ => ⟨rfl, rfl, rfl, rfl, rfl⟩) he hs

/-! ### The figures that follow, spelled out (R134, R139, R158, R107) -/

/-- A source has a record when the fault list holds one of it. -/
theorem Controller.record_isSome_iff {x : Controller} {src : Source} :
    (x.record src).isSome = true ↔ ∃ r ∈ x.faults, r.source = src := by
  simp [Controller.record, List.find?_isSome]

theorem Contributions.mem_values {c : Contributions} {v : Nat} :
    v ∈ c.values ↔ c.driveLatched = some v ∨ c.overrun0 = some v ∨ c.overrun1 = some v ∨ c.transport0 = some v ∨
      c.transport1 = some v ∨ c.afterFault0 = some v ∨ c.afterFault1 = some v ∨ c.ration = some v ∨ c.dust = some v := by
  simp [Contributions.values, eq_comm]

/-- The silent expected peers, as the statement lists them. -/
theorem State.silentExpected_eq (s : State) :
    s.silentExpected =
      (s.peers.filter fun p => s.tableOwn != some p.station && p.expected && p.fresh == .silent).length := by
  rw [State.silentExpected, State.others, List.filter_filter]
  simp only [Bool.and_comm, Bool.and_left_comm, Bool.and_assoc]

theorem State.silentExpected_pos_iff {s : State} :
    0 < s.silentExpected ↔ ∃ p ∈ s.peers, s.tableOwn ≠ some p.station ∧ p.expected = true ∧ p.fresh = .silent := by
  simp [State.silentExpected_eq, List.length_pos_iff_exists_mem, and_assoc]

/-- While no SUPPLY record stands, the own cap is the least of the mode cap, the operator limit and the contributions (R134). -/
theorem State.composeCap_of_no_supply {s : State} (h : ∀ r ∈ s.ctl.faults, r.source ≠ .supply) :
    s.composeCap ∈ s.modeCap :: s.ctl.limit :: s.ctl.contrib.values ∧
      ∀ v ∈ s.modeCap :: s.ctl.limit :: s.ctl.contrib.values, s.composeCap ≤ v := by
  have hn : (s.ctl.record .supply).isSome = false := by
    rw [Bool.eq_false_iff, Ne, Controller.record_isSome_iff]
    exact fun ⟨r, hr, hs⟩ => h r hr hs
  have hmem := least_mem (min s.modeCap s.ctl.limit) s.ctl.contrib.values
  have hle (v : Nat) := least_le (v := v) (top := min s.modeCap s.ctl.limit) (l := s.ctl.contrib.values)
  rw [State.composeCap, hn]
  simp only [Bool.false_eq_true, if_false, List.mem_cons, forall_eq_or_imp] at hmem hle ⊢
  obtain ⟨htop, hrest⟩ := hle
  refine ⟨?_, by omega, by omega, hrest⟩
  rcases hmem with h | h
  · omega
  · exact .inr (.inr h)

theorem mem_ite_singleton {p : Prop} [Decidable p] {x v : Nat} :
    v ∈ (if p then [x] else []) ↔ (if p then some x else none) = some v := by split <;> simp [eq_comm]

/-- The mode cap by the table of the modes (07, section 7.1; R124). -/
theorem State.modeCap_eq (s : State) :
    s.modeCap =
      match s.ctl.mode with
      | .limp => 300
      | .transport => s.cfg.drive.transportCap
      | .sweep | .stowing => s.cfg.drive.sweepCap
      | .unset | .warmup | .parked | .parking | .shutdown | .standby => 0 := by
  unfold State.modeCap; cases s.ctl.mode <;> rfl

/-- The contributions that stand with a state of their poster, in a settled state (R23, R43, R82). -/
theorem State.Settled.standing {s : State} (h : s.Settled) :
    s.ctl.contrib.driveLatched = (if s.drive.state = .latched then some 0 else none) ∧
      s.ctl.contrib.overrun0 = (if s.brush0.overrun = true then some s.brush0.overrunCap else none) ∧
      s.ctl.contrib.overrun1 = (if s.brush1.overrun = true then some s.brush1.overrunCap else none) ∧
      s.ctl.contrib.dust =
        if (s.spray.state = .empty ∨ s.spray.state = .latched) ∧ s.cfg.spray.drySweep = 0 then some s.cfg.spray.dustCap
        else none := by
  refine ⟨?_, ?_, ?_, ?_⟩ <;> rw [h.contrib] <;> simp [State.contributions, State.dustStands]

/-- Settles O3: every event ends in `State.settle`, and the statement's figures are those of `State.composeCap`. -/
theorem followingFiguresKeptByEveryStep : Obligations.FollowingFiguresKeptByEveryStep := by
  refine ⟨fun s t hs he => step_settled he hs, fun s hs => ?_⟩
  intro modeCap figures
  have hfig (v : Nat) : v ∈ figures ↔ v ∈ s.modeCap :: s.ctl.limit :: s.ctl.contrib.values := by
    obtain ⟨hlatched, hover0, hover1, hdust⟩ := hs.standing
    have hmode : modeCap = s.modeCap := s.modeCap_eq.symm
    simp only [figures, hmode, List.mem_append, mem_ite_singleton, ← hlatched, ← hover0, ← hover1, ← hdust,
      Option.mem_toList, List.mem_cons, List.not_mem_nil, or_false, Contributions.mem_values, or_assoc]
  refine ⟨fun h => ?_, fun h => ?_, ?_, ?_, ?_⟩
  · rw [hs.cap, State.composeCap, if_pos (Controller.record_isSome_iff.mpr h)]
  · simp only [hfig, hs.cap]
    exact State.composeCap_of_no_supply h
  · rw [hs.lamp, State.lampLevel]
    simp [State.silentExpected_pos_iff]
  · rw [hs.forcing]
    simp [State.forcingOn, State.supplyLow, or_assoc]
  · rw [hs.silent, State.silentExpected_eq]

end Sys2Proof.Machine

/-! What the commands do to the mode controller (07): chains of a few moves, from which the bounds of R131, R133, R135 and R136
and the standing of LATCHED records follow. -/

namespace Sys2Proof.Machine

/-! ### The moves of the mode controller -/

/-- What the fault list, the queue of commands, the counts and the settings of two mode controllers agree in. -/
structure Controller.SameBooks (x y : Controller) : Prop where
  faults : y.faults = x.faults
  queue : y.queue = x.queue
  discard : y.discard = x.discard
  limit : y.limit = x.limit
  rate : y.sprayRate = x.sprayRate
  counts : ∀ k, y.recovery k = x.recovery k

/-- The moves that the events make in the mode controller. A LATCHED record is dropped or changes its state only of a source that is `free`. -/
inductive Controller.Moves (free : Source → Prop) : Controller → Controller → Prop
  | refl (x : Controller) : Controller.Moves free x x
  | trans {x y z : Controller} : Controller.Moves free x y → Controller.Moves free y z → Controller.Moves free x z
  /-- the mode, a timer, a setting without bounds or a figure that follows changes -/
  | books {x y : Controller} : x.SameBooks y → Controller.Moves free x y
  | put (x : Controller) (src : Source) (code : FaultCode) (st : RecordState) :
      (x.recordState src = some .latched → st = .latched ∨ free src) → Controller.Moves free x (x.putRecord src code st)
  | drop (x : Controller) (src : Source) :
      (x.recordState src = some .latched → free src) → Controller.Moves free x (x.dropRecord src)
  | recovering (x : Controller) (src : Source) : Controller.Moves free x (x.makeRecovering src)
  | recovered (x : Controller) (src : Source) : Controller.Moves free x (x.removeRecovering src)
  | count (x : Controller) (k : Counted) (v : Recovery) :
      ((x.recovery k).count ≤ 3 → v.count ≤ 3) → Controller.Moves free x (x.setRecovery k v)
  | enqueue (x : Controller) (c : Command) : Controller.Moves free x (x.enqueue c)
  | pop (x : Controller) : Controller.Moves free x x.pop
  | limit (x : Controller) (v : Nat) : v ≤ 4000 → Controller.Moves free x { x with limit := v }
  | rate (x : Controller) (v : Nat) : 5 ≤ v ∧ v ≤ 100 → Controller.Moves free x { x with sprayRate := v }
  | standby (x : Controller) : Controller.Moves free x x.standby

namespace Controller

theorem SameBooks.recovery {x y : Controller} (h : x.SameBooks y) (k : Counted) : y.recovery k = x.recovery k := h.counts k

theorem SameBooks.record {x y : Controller} (h : x.SameBooks y) (src : Source) : y.record src = x.record src := by
  rw [Controller.record, Controller.record, h.faults]

end Controller

/-- Two mode controllers whose books agree field by field. -/
theorem Controller.sameBooks_of_fields {x y : Controller}
    (h : y.faults = x.faults ∧ y.queue = x.queue ∧ y.discard = x.discard ∧ y.limit = x.limit ∧ y.sprayRate = x.sprayRate ∧
      y.linkCount = x.linkCount ∧ y.brush0Count = x.brush0Count ∧ y.brush1Count = x.brush1Count ∧
      y.sprayCount = x.sprayCount) : x.SameBooks y := by
  obtain ⟨h1, h2, h3, h4, h5, h6, h7, h8, h9⟩ := h
  exact ⟨h1, h2, h3, h4, h5, fun k => by cases k <;> assumption⟩

/-- More free sources allow more moves. -/
theorem Controller.Moves.mono {free free' : Source → Prop} (hf : ∀ src, free src → free' src) {x y : Controller}
    (h : Controller.Moves free x y) : Controller.Moves free' x y := by
  induction h with
  | refl x => exact .refl x
  | trans _ _ ih1 ih2 => exact .trans ih1 ih2
  | books h => exact .books h
  | put x src code st h => exact .put x src code st fun hl => (h hl).imp_right (hf _)
  | drop x src h => exact .drop x src fun hl => hf _ (h hl)
  | recovering x src => exact .recovering x src
  | recovered x src => exact .recovered x src
  | count x k v h => exact .count x k v h
  | enqueue x c => exact .enqueue x c
  | pop x => exact .pop x
  | limit x v h => exact .limit x v h
  | rate x v h => exact .rate x v h
  | standby x => exact .standby x

/-! ### What the moves keep: the bounds (R131, R133, R135, R136) -/

theorem Controller.putRecord_sources_nodup {x : Controller} (h : (x.faults.map Record.source).Nodup) (src : Source)
    (code : FaultCode) (st : RecordState) : ((x.putRecord src code st).faults.map Record.source).Nodup := by
  unfold Controller.putRecord
  dsimp only
  split
  · rwa [List.map_map, List.map_congr_left (g := Record.source)]
    intro r _
    simp only [Function.comp]
    split <;> simp_all
  · rename_i hnone
    rw [List.map_append, List.nodup_append]
    refine ⟨h, by simp, ?_⟩
    simp only [List.any_eq_true, beq_iff_eq, not_exists, not_and] at hnone
    simpa using hnone

/-- What STANDBY entry makes of the fault list and of each count (R138). -/
theorem Controller.standbyFaults_spec (x : Controller) :
    x.standbyFaults =
      { x with
        faults := x.faults.filter fun r => r.state == .latched
        linkCount := x.standbyFaults.linkCount, brush0Count := x.standbyFaults.brush0Count
        brush1Count := x.standbyFaults.brush1Count, sprayCount := x.standbyFaults.sprayCount } := by
  unfold Controller.standbyFaults allCounted
  simp only [List.foldl_cons, List.foldl_nil]
  split_ifs <;> rfl

/-- The fault list that STANDBY entry leaves (R138). -/
def Controller.keptLatched (x : Controller) : Controller := { x with faults := x.faults.filter fun r => r.state == .latched }

theorem Controller.recovery_zeroCount (x : Controller) (k j : Counted) :
    (x.zeroCount k).recovery j = if j = k then { x.recovery k with count := 0 } else x.recovery j := by
  simp [Controller.zeroCount]

/-- A count stays with a LATCHED record, and is 0 without one (R138). -/
theorem Controller.standbyFaults_recovery (x : Controller) (k : Counted) :
    x.standbyFaults.recovery k =
      if (x.keptLatched.record (sourceOf k)).isNone then { x.recovery k with count := 0 } else x.recovery k := by
  have hfold : ∀ (l : List Counted) (y : Controller), (∀ src, y.record src = x.keptLatched.record src) → l.Nodup →
      (l.foldl (fun y k => if (y.record (sourceOf k)).isNone then y.zeroCount k else y) y).recovery k =
        if k ∈ l ∧ (x.keptLatched.record (sourceOf k)).isNone then { y.recovery k with count := 0 } else y.recovery k := by
    intro l
    induction l with
    | nil => simp
    | cons a l ih =>
      intro y hy hl
      obtain ⟨ha, hl⟩ := List.nodup_cons.mp hl
      rw [List.foldl_cons, ih _ (by intro src; split <;> simp [hy]) hl]
      by_cases hk : k = a
      · subst hk
        simp only [ha, false_and, if_false, List.mem_cons_self, true_and, hy]
        split <;> simp [Controller.recovery_zeroCount]
      · have : (if (y.record (sourceOf a)).isNone then y.zeroCount a else y).recovery k = y.recovery k := by
          split <;> simp [Controller.recovery_zeroCount, hk]
        rw [this]
        simp [hk]
  have hrec : x.keptLatched.recovery k = x.recovery k := by cases k <;> rfl
  have := hfold allCounted x.keptLatched (fun _ => rfl) (by decide)
  rw [hrec] at this
  refine this.trans ?_
  have hk : k ∈ allCounted := by cases k <;> decide
  simp only [hk, true_and]

/-- Every move keeps the bounds of the mode controller. -/
theorem Controller.Moves.wf {free : Source → Prop} {x y : Controller} (h : Controller.Moves free x y) (hx : x.Wf) : y.Wf := by
  induction h with
  | refl x => exact hx
  | trans _ _ ih1 ih2 => exact ih2 (ih1 hx)
  | books h =>
    exact ⟨by rw [h.faults]; exact hx.sources, by rw [h.queue]; exact hx.queue, fun k => by rw [h.counts]; exact hx.counts k,
      by rw [h.discard]; exact hx.discard, by rw [h.limit]; exact hx.limit, by rw [h.rate]; exact hx.rate⟩
  | put x src code st =>
    exact ⟨Controller.putRecord_sources_nodup hx.sources _ _ _, by simpa using hx.queue, by simpa using hx.counts,
      by simpa using hx.discard, by simpa using hx.limit, by simpa using hx.rate⟩
  | drop x src =>
    exact ⟨hx.sources.sublist (List.filter_sublist.map _), hx.queue, by simpa using hx.counts, hx.discard, hx.limit, hx.rate⟩
  | recovering x src =>
    refine ⟨?_, hx.queue, by simpa using hx.counts, hx.discard, hx.limit, hx.rate⟩
    have : (x.makeRecovering src).faults.map Record.source = x.faults.map Record.source := by
      simp only [Controller.makeRecovering, List.map_map]
      refine List.map_congr_left fun r _ => ?_
      simp only [Function.comp]
      split <;> rfl
    rw [this]
    exact hx.sources
  | recovered x src =>
    exact ⟨hx.sources.sublist (List.filter_sublist.map _), hx.queue, by simpa using hx.counts, hx.discard, hx.limit, hx.rate⟩
  | count x k v h =>
    refine ⟨by simpa using hx.sources, by simpa using hx.queue, fun j => ?_, by simpa using hx.discard,
      by simpa using hx.limit, by simpa using hx.rate⟩
    rw [Controller.recovery_setRecovery]
    split
    · exact h (hx.counts k)
    · exact hx.counts j
  | enqueue x c =>
    unfold Controller.enqueue
    split
    · refine ⟨hx.sources, ?_, hx.counts, hx.discard, hx.limit, hx.rate⟩
      simp only [List.length_append, List.length_singleton]
      omega
    · exact ⟨hx.sources, hx.queue, hx.counts, Nat.mod_lt _ (by decide), hx.limit, hx.rate⟩
  | pop x =>
    refine ⟨hx.sources, ?_, hx.counts, hx.discard, hx.limit, hx.rate⟩
    have := hx.queue
    simp only [Controller.pop, List.length_drop]
    omega
  | limit x v h => exact ⟨hx.sources, hx.queue, hx.counts, hx.discard, h, hx.rate⟩
  | rate x v h => exact ⟨hx.sources, hx.queue, hx.counts, hx.discard, hx.limit, h⟩
  | standby x =>
    have hs := x.standbyFaults_spec
    refine ⟨?_, Nat.zero_le _, fun k => ?_, ?_, ?_, ?_⟩
    · show (x.standbyFaults.faults.map Record.source).Nodup
      rw [hs]
      exact hx.sources.sublist (List.filter_sublist.map _)
    · have : x.standby.recovery k = x.standbyFaults.recovery k := by cases k <;> rfl
      rw [this, Controller.standbyFaults_recovery]
      split
      · exact Nat.zero_le 3
      · exact hx.counts k
    · show x.standbyFaults.discard < 256
      rw [hs]; exact hx.discard
    · show x.standbyFaults.limit ≤ 4000
      rw [hs]; exact hx.limit
    · show 5 ≤ x.standbyFaults.sprayRate ∧ x.standbyFaults.sprayRate ≤ 100
      rw [hs]; exact hx.rate

/-! ### What the moves keep: LATCHED records -/

theorem Controller.recordState_eq_some_iff {x : Controller} {src : Source} {st : RecordState} :
    x.recordState src = some st ↔ ∃ r, x.record src = some r ∧ r.state = st := by
  simp [Controller.recordState]

/-- The records that STANDBY entry keeps (R138). -/
theorem Controller.keptLatched_recordState {x : Controller} {src : Source} (h : x.recordState src = some .latched) :
    x.keptLatched.recordState src = some .latched := by
  obtain ⟨r, hr, hst⟩ := Controller.recordState_eq_some_iff.mp h
  refine Controller.recordState_eq_some_iff.mpr ⟨r, ?_, hst⟩
  unfold Controller.record Controller.keptLatched at *
  dsimp only
  rw [List.find?_filter]
  revert hr
  induction x.faults with
  | nil => simp
  | cons a l ih =>
    simp only [List.find?_cons]
    cases ha : a.source == src
    · simpa using ih
    · intro h
      cases h
      simp [hst]

theorem Controller.standby_faults (x : Controller) : x.standby.faults = x.keptLatched.faults := by
  show x.standbyFaults.faults = _
  rw [x.standbyFaults_spec]
  rfl

/-- A LATCHED record of a source that is not free stands through every move. -/
theorem Controller.Moves.latched {free : Source → Prop} {x y : Controller} (h : Controller.Moves free x y) {src : Source}
    (hsrc : ¬free src) (hx : x.recordState src = some .latched) : y.recordState src = some .latched := by
  induction h with
  | refl x => exact hx
  | trans _ _ ih1 ih2 => exact ih2 (ih1 hx)
  | books h => rw [Controller.recordState, h.record]; exact hx
  | put x src' code st h =>
    rw [Controller.recordState, Controller.record_putRecord]
    split
    · subst ‹src = src'›
      rw [(h hx).resolve_right hsrc]
      rfl
    · exact hx
  | drop x src' h =>
    have hne : src ≠ src' := fun e => hsrc (e ▸ h (e ▸ hx))
    rw [Controller.recordState, Controller.record_dropRecord, if_neg hne]
    exact hx
  | recovering x src' =>
    obtain ⟨r, hr, hst⟩ := Controller.recordState_eq_some_iff.mp hx
    simp [Controller.recordState, hr, hst]
  | recovered x src' =>
    obtain ⟨r, hr, hst⟩ := Controller.recordState_eq_some_iff.mp hx
    refine Controller.recordState_eq_some_iff.mpr ⟨r, ?_, hst⟩
    by_cases hs : src = src'
    · subst hs; exact x.record_removeRecovering_of_state hr (by rw [hst]; decide)
    · rw [x.record_removeRecovering_of_ne hs, hr]
  | count x k v h => simpa [Controller.recordState] using hx
  | enqueue x c => unfold Controller.enqueue; split <;> exact hx
  | pop x => exact hx
  | limit x v h => exact hx
  | rate x v h => exact hx
  | standby x =>
    have := Controller.keptLatched_recordState hx
    simpa only [Controller.recordState, Controller.record, Controller.standby_faults] using this

/-! ### What each operation does to the mode controller -/

section Operations

variable {free : Source → Prop}

theorem Controller.Moves.of_fields {x y : Controller}
    (h : y.faults = x.faults ∧ y.queue = x.queue ∧ y.discard = x.discard ∧ y.limit = x.limit ∧ y.sprayRate = x.sprayRate ∧
      y.linkCount = x.linkCount ∧ y.brush0Count = x.brush0Count ∧ y.brush1Count = x.brush1Count ∧
      y.sprayCount = x.sprayCount) : Controller.Moves free x y := .books (Controller.sameBooks_of_fields h)

theorem Controller.Moves.of_eq {x y : Controller} (h : y = x) : Controller.Moves free x y := by rw [h]; exact .refl x

theorem Controller.Moves.from {x y z : Controller} (h : Controller.Moves free y z) (e : y = x) :
    Controller.Moves free x z := e ▸ h

/-- The common latching rule (R135). -/
theorem Controller.moves_post (x : Controller) (now : Micros) (k : Counted) (code : FaultCode) :
    Controller.Moves free x (x.post now k code).1 := by
  obtain ⟨st, n, he, h⟩ := x.post_spec now k code
  rw [he]
  refine .trans (.count x k { count := n, window := some now } fun hc => ?_) (.put _ _ _ _ fun hl => ?_)
  · show n ≤ 3
    omega
  · simp only [Controller.recordState, Controller.record_setRecovery] at hl h
    simp_all

theorem State.moves_settle (s : State) : Controller.Moves free s.ctl s.settle.ctl := .of_fields (by simp)

theorem State.moves_finish (s : State) (b : LinkState) : Controller.Moves free s.ctl (s.finish b).ctl := by
  rw [State.finish_ctl]; exact s.moves_settle

/-! The travel drive (01) -/

theorem State.moves_postDrive (s : State) (code : FaultCode) : Controller.Moves free s.ctl (s.postDrive code).ctl :=
  .put _ _ _ _ fun _ => .inl rfl

theorem State.moves_postPedal (s : State) : Controller.Moves free s.ctl s.postPedal.ctl := by
  unfold State.postPedal
  split
  · exact .refl _
  · refine .put _ _ _ _ fun hl => ?_
    simp_all [Controller.recordState]

theorem State.moves_withdrawPedal (s : State) : Controller.Moves free s.ctl s.withdrawPedal.ctl := by
  unfold State.withdrawPedal
  split
  · exact .drop _ _ fun hl => by simp_all [Controller.recordState]
  · exact .refl _

theorem State.moves_pedalStage (s : State) : Controller.Moves free s.ctl s.pedalStage.ctl := by
  unfold State.pedalStage
  dsimp only
  split_ifs
  · exact (State.moves_postPedal _).from rfl
  · exact (State.moves_withdrawPedal _).from rfl
  all_goals exact .refl _

theorem State.moves_blindStage (s : State) : Controller.Moves free s.ctl s.blindStage.ctl := by
  unfold State.blindStage
  split
  · exact (State.moves_postDrive _ _).from rfl
  · exact .refl _

theorem State.moves_driveStep (s : State) : Controller.Moves free s.ctl s.driveStep.ctl := by
  unfold State.driveStep
  dsimp only
  split
  · simpa using s.moves_pedalStage.trans s.pedalStage.moves_blindStage
  · exact s.moves_pedalStage

theorem State.moves_driveCoilReport (s : State) (code : FaultCode) :
    Controller.Moves free s.ctl (s.driveCoilReport code).ctl := by
  unfold State.driveCoilReport
  split
  case h_6 => exact (State.moves_postDrive _ _).from rfl
  case h_7 => exact .refl _
  case h_5 => exact s.moves_postDrive code
  all_goals exact (State.moves_postDrive _ _).from rfl

theorem State.moves_driveYield (s : State) : Controller.Moves free s.ctl s.driveYield.ctl := by
  unfold State.driveYield
  split
  · exact (State.moves_postDrive _ _).from rfl
  · exact .refl _

theorem State.moves_driveClear (s : State) (hf : free .drive) : Controller.Moves free s.ctl s.driveClear.ctl := by
  unfold State.driveClear
  dsimp only
  have hdrop (d : Drive) : Controller.Moves free s.ctl ((s.setDrive d).setCtl (s.ctl.dropRecord .drive)).ctl :=
    .drop _ _ fun _ => hf
  split_ifs
  · exact (hdrop _).trans (State.moves_postPedal _)
  · exact (hdrop _).trans (State.moves_postPedal _)
  all_goals first | exact hdrop _ | exact .refl _

/-! The ration unit and the brush channels (02, 03) -/

theorem State.moves_rationStep (s : State) : Controller.Moves free s.ctl s.rationStep.ctl := by
  unfold State.rationStep
  split <;> exact .of_fields (by simp)

theorem State.moves_brushFault (s : State) (c : Chan) (code : FaultCode) :
    Controller.Moves free s.ctl (s.brushFault c code).ctl := by
  unfold State.brushFault
  simpa using s.ctl.moves_post s.now (countedOf c) code

theorem State.moves_setBrushAndRecord (s : State) (c : Chan) (b : Brush) :
    Controller.Moves free s.ctl (s.setBrushAndRecord c b).ctl := by
  unfold State.setBrushAndRecord
  dsimp only
  split
  · simpa using Controller.Moves.recovered s.ctl (sourceOf (countedOf c))
  · exact .of_eq (by simp)

theorem State.moves_applyBrush (s : State) (c : Chan) (cause : BrushCause) :
    Controller.Moves free s.ctl (s.applyBrush c cause).ctl := by
  unfold State.applyBrush
  dsimp only
  split
  case h_11 =>
    have h : Controller.Moves free s.ctl (s.setCtl (s.ctl.makeRecovering (sourceOf (countedOf c)))).ctl := .recovering _ _
    split
    · exact h.trans (.of_eq (by simp))
    · exact h.trans (State.moves_setBrushAndRecord _ _ _)
  all_goals
    first
    | exact State.moves_brushFault _ _ _
    | exact State.moves_setBrushAndRecord _ _ _
    | exact .of_eq (by simp)

theorem State.moves_armContributions (s : State) (c : Chan) :
    Controller.Moves free s.ctl (s.armContributions c).ctl := by
  unfold State.armContributions
  cases c <;> exact .of_fields (by simp)

theorem State.moves_brushStage1 (s : State) (c : Chan) : Controller.Moves free s.ctl (s.brushStage1 c).ctl := by
  unfold State.brushStage1
  split
  · exact (s.moves_applyBrush c _).trans (State.moves_armContributions _ _)
  · exact .refl _

theorem State.moves_brushStep (s : State) (c : Chan) : Controller.Moves free s.ctl (State.brushStep c s).ctl := by
  unfold State.brushStep State.brushStage1Both
  simpa using ((s.moves_brushStage1 c).trans (State.moves_brushStage1 _ _)).trans (State.moves_rationStep _)

theorem State.moves_brushCoilReport (s : State) (c : Chan) (code : FaultCode) :
    Controller.Moves free s.ctl (s.brushCoilReport c code).ctl := by
  unfold State.brushCoilReport
  split
  case h_6 | h_7 | h_8 | h_9 => exact .refl _
  all_goals exact s.moves_brushFault c code

theorem State.moves_brushSupplyRelease (s : State) (c : Chan) :
    Controller.Moves free s.ctl (s.brushSupplyRelease c).ctl := by
  unfold State.brushSupplyRelease
  split_ifs
  · exact s.moves_setBrushAndRecord _ _
  all_goals exact .of_eq (by simp)

theorem State.moves_brushClear (s : State) (c : Chan) (hf : free (sourceOf (countedOf c))) :
    Controller.Moves free s.ctl (s.brushClear c).ctl := by
  unfold State.brushClear
  dsimp only
  have hdrop : Controller.Moves free s.ctl ((s.ctl.dropRecord (sourceOf (countedOf c))).zeroCount (countedOf c)) :=
    .trans (.drop _ _ fun _ => hf) (.count _ _ _ fun _ => Nat.zero_le _)
  split_ifs
  · simpa using hdrop
  · simpa using hdrop
  · simpa using hdrop
  · exact .refl _

theorem State.moves_brushStandby (s : State) (c : Chan) : Controller.Moves free s.ctl (s.brushStandby c).ctl := by
  unfold State.brushStandby
  dsimp only
  cases c <;> exact .of_fields (by simp)

theorem State.moves_rationStandby (s : State) : Controller.Moves free s.ctl s.rationStandby.ctl := .of_fields (by simp [State.rationStandby])

/-! The spray channel (04) -/

theorem State.moves_sprayFault (s : State) (x : Spray) (code : FaultCode) :
    Controller.Moves free s.ctl (s.sprayFault x code).ctl := s.ctl.moves_post s.now .spray code

theorem State.moves_removeSprayRecovering (s : State) : Controller.Moves free s.ctl s.removeSprayRecovering.ctl :=
  .recovered _ _

theorem State.moves_applySpray (s : State) (cause : SprayCause) : Controller.Moves free s.ctl (s.applySpray cause).ctl := by
  unfold State.applySpray
  dsimp only
  split
  case h_1 =>
    split
    · exact (State.moves_removeSprayRecovering _).from rfl
    · exact .refl _
  case h_15 => split <;> exact .recovering _ _
  all_goals
    first
    | exact .refl _
    | exact State.moves_sprayFault _ _ _
    | exact (State.moves_removeSprayRecovering _).from rfl

theorem State.moves_sprayStep (s : State) : Controller.Moves free s.ctl s.sprayStep.ctl := by
  unfold State.sprayStep
  simpa using s.moves_applySpray s.sprayCause

theorem State.moves_sprayCoilReport (s : State) (code : FaultCode) :
    Controller.Moves free s.ctl (s.sprayCoilReport code).ctl := by
  unfold State.sprayCoilReport
  split
  · exact s.moves_sprayFault _ _
  · exact .refl _

theorem State.moves_sprayClear (s : State) (hf : free .spray) : Controller.Moves free s.ctl s.sprayClear.ctl := by
  unfold State.sprayClear
  dsimp only
  have hdrop : Controller.Moves free s.ctl ((s.ctl.dropRecord .spray).zeroCount .spray) :=
    .trans (.drop _ _ fun _ => hf) (.count _ _ _ fun _ => Nat.zero_le _)
  split_ifs
  · simpa using hdrop
  · simpa using hdrop
  · simpa using hdrop
  · exact .refl _

/-! The link (06) -/

theorem State.moves_postLink (s : State) (code : FaultCode) : Controller.Moves free s.ctl (s.postLink code).ctl :=
  s.ctl.moves_post s.now .link code

theorem State.moves_listenOnly (s : State) : Controller.Moves free s.ctl s.listenOnly.ctl :=
  (State.moves_postLink _ .txErrors).from rfl

theorem State.moves_clash (s : State) : Controller.Moves free s.ctl s.clash.ctl := by
  unfold State.clash
  dsimp only
  split
  case h_1 | h_2 => exact (State.moves_postLink _ .clash).from rfl
  all_goals exact .refl _

theorem State.moves_linkClear (s : State) (hf : free .link) : Controller.Moves free s.ctl s.linkClear.ctl := by
  unfold State.linkClear
  split
  · exact .trans (.drop _ .link fun _ => hf) (.count _ .link _ fun _ => Nat.zero_le _)
  · exact .refl _

theorem State.moves_abandon (s : State) : Controller.Moves free s.ctl s.abandon.ctl := by
  unfold State.abandon
  dsimp only
  split
  · exact (State.moves_listenOnly _).from rfl
  · exact .refl _

theorem Controller.moves_completed (x : Controller) (f : OwnFrame) : Controller.Moves free x (x.completed f) := by
  unfold Controller.completed
  split <;> exact .of_fields (by simp)

theorem State.moves_sentToCompletion (s : State) : Controller.Moves free s.ctl s.sentToCompletion.ctl := by
  unfold State.sentToCompletion State.complete
  dsimp only
  split
  · simp only [State.setLink_ctl, State.setCtl_ctl]
    split
    · exact (s.ctl.moves_completed _).trans (.recovered _ _)
    · exact s.ctl.moves_completed _
  · exact .refl _

theorem State.moves_arrival (s : State) (f : StateFrame) : Controller.Moves free s.ctl (s.arrival f).ctl := by
  unfold State.arrival
  dsimp only
  split
  · exact (State.moves_driveYield _).from rfl
  · exact .refl _

theorem State.moves_receiveState (s : State) (f : BusFrame) : Controller.Moves free s.ctl (s.receiveState f).ctl := by
  unfold State.receiveState State.handState
  split
  · split_ifs
    · exact .refl _
    · exact (State.moves_clash _).from rfl
    · exact (State.moves_arrival _ _).from rfl
  · exact .refl _

theorem State.moves_listenEnd (s : State) : Controller.Moves free s.ctl s.listenEnd.ctl := by
  unfold State.listenEnd
  split
  · exact .refl _
  · exact .recovering _ _

/-! The supply monitor and the converter (08, 09) -/

theorem State.moves_releaseNotices (s : State) : Controller.Moves free s.ctl s.releaseNotices.ctl := by
  unfold State.releaseNotices
  simpa using ((State.moves_brushSupplyRelease s.driveSupplyRelease .c0).trans (State.moves_brushSupplyRelease _ .c1)).from
    (by simp)

theorem State.moves_startNotices (s : State) : Controller.Moves free s.ctl s.startNotices.ctl :=
  .of_eq (by simp)

theorem State.moves_makeSupplyRecord (s : State) (hf : free .supply) :
    Controller.Moves free s.ctl s.makeSupplyRecord.ctl := .put _ _ _ _ fun _ => .inr hf

theorem State.moves_superviseSupply (s : State) (v : Nat) (hf : free .supply) :
    Controller.Moves free s.ctl (s.superviseSupply v).ctl := by
  unfold State.superviseSupply
  obtain ⟨cond, start, release⟩ := monitor s.cfg.general.voltage s.out.supply s.out.startTimer s.out.releaseTimer v s.now
  dsimp only
  split
  · exact ((State.moves_startNotices _).trans (State.moves_makeSupplyRecord _ hf)).from rfl
  · exact ((State.moves_releaseNotices _).trans (.drop _ .supply fun _ => hf)).from rfl
  all_goals exact .refl _

theorem State.moves_coilReport (s : State) (c : Coil) (code : FaultCode) :
    Controller.Moves free s.ctl (s.coilReport c code).ctl := by
  cases c
  case driveF | driveR => exact s.moves_driveCoilReport code
  case brush0 => exact s.moves_brushCoilReport .c0 code
  case brush1 => exact s.moves_brushCoilReport .c1 code
  case pump => exact s.moves_sprayCoilReport code

theorem State.moves_diagnose (s : State) (c : Coil) (v : Nat) : Controller.Moves free s.ctl (s.diagnose c v).ctl := by
  unfold State.diagnose
  dsimp only
  split_ifs
  · exact (State.moves_coilReport _ _ _).from rfl
  · exact (State.moves_coilReport _ _ _).from rfl
  · exact .refl _

theorem State.moves_single (s : State) (code : Byte) (hf : free .supply) :
    Controller.Moves free s.ctl (s.single code).ctl := by
  unfold State.single State.afterSingle
  split
  · split
    · exact (State.moves_diagnose _ _ _).from rfl
    · split
      · exact (State.moves_superviseSupply _ _ hf).from rfl
      · exact .refl _
  · exact .refl _

theorem State.moves_singleOrLate (s : State) (code : Byte) (hf : free .supply) :
    Controller.Moves free s.ctl (s.singleOrLate code).ctl := by
  unfold State.singleOrLate
  split
  · exact .of_eq (by simp)
  · exact s.moves_single code hf

/-! The mode controller (07) -/

theorem State.moves_enterStandby (s : State) : Controller.Moves free s.ctl s.enterStandby.ctl := by
  have hchan : Controller.Moves free s.ctl s.channelsStandby.ctl := by
    unfold State.channelsStandby
    simpa using (((State.moves_brushStandby s.driveStandby .c0).trans (State.moves_brushStandby _ .c1)).trans
      (State.moves_rationStandby _)).from (by simp)
  unfold State.enterStandby
  exact hchan.trans (by simpa using .standby _)

/-- The mode controller, the scan and the monitor as the station leaves STANDBY (R130, R148, R163). -/
def State.wakeScan (s : State) : State :=
  ((s.setCtl
      { s.ctl with
        mode := s.ctl.standbyReturn
        ignitionTimer := if s.pins.ignition then none else some s.now
        warmupTimer := if s.ctl.standbyReturn = .warmup then some s.now else none }).setConv
      { s.conv with place := some .pedalA, coarse := none }).setOut { s.out with late := none }

/-- A SUPPLY condition that stands as the station leaves STANDBY takes its effect (R163). -/
def State.wakeSupply (s : State) : State := if s.supplyLow then s.startNotices.makeSupplyRecord else s

theorem State.leaveStandby_eq (s : State) : s.leaveStandby = s.wakeScan.wakeSupply.linkLeaveStandby := rfl

theorem State.moves_wakeSupply (s : State) (hf : free .supply) : Controller.Moves free s.ctl s.wakeSupply.ctl := by
  unfold State.wakeSupply
  split
  · exact s.moves_startNotices.trans (State.moves_makeSupplyRecord _ hf)
  · exact .refl _

theorem State.moves_leaveStandby (s : State) (hf : free .supply) : Controller.Moves free s.ctl s.leaveStandby.ctl := by
  have hscan : Controller.Moves free s.ctl s.wakeScan.ctl := .of_fields ⟨rfl, rfl, rfl, rfl, rfl, rfl, rfl, rfl, rfl⟩
  rw [State.leaveStandby_eq]
  exact (hscan.trans (s.wakeScan.moves_wakeSupply hf)).trans (.of_eq (by simp))

theorem State.moves_enterMode (s : State) (new : Mode) : Controller.Moves free s.ctl (s.enterMode new).ctl :=
  .of_fields ⟨rfl, rfl, rfl, rfl, rfl, rfl, rfl, rfl, rfl⟩

theorem State.moves_modeCheck (s : State) (hf : free .supply) : Controller.Moves free s.ctl s.modeCheck.ctl := by
  have htimers : Controller.Moves free s.ctl
      (s.setCtl { s.ctl with ignitionTimer := s.ignitionTiming, restTimer := s.restTiming }).ctl :=
    .of_fields ⟨rfl, rfl, rfl, rfl, rfl, rfl, rfl, rfl, rfl⟩
  unfold State.modeCheck
  dsimp only
  split
  · exact htimers
  · exact s.moves_leaveStandby hf
  · split
    · exact htimers.trans (State.moves_enterStandby _)
    · exact htimers.trans (State.moves_enterMode _ _)
  · exact htimers.trans (State.moves_enterMode _ _)
  · exact htimers.trans (State.moves_enterMode _ _)
  · split_ifs
    · exact htimers.trans (State.moves_enterMode _ _)
    · exact htimers.trans (State.moves_enterMode _ _)
    · exact htimers.trans (State.moves_enterStandby _)

theorem State.moves_receiveCommand (s : State) (f : BusFrame) (hf : free .supply) :
    Controller.Moves free s.ctl (s.receiveCommand f).ctl := by
  unfold State.receiveCommand State.handCommand
  split
  · split_ifs
    · exact .refl _
    · exact (State.moves_leaveStandby _ hf).from rfl
    · exact .refl _
    · exact .enqueue _ _
  · exact .refl _

theorem State.moves_takeHeadMode (s : State) : Controller.Moves free s.ctl s.takeHeadMode.ctl := by
  unfold State.takeHeadMode State.takeMode
  split
  · split
    · exact .trans (.pop _) ((State.moves_enterMode _ _).from rfl)
    · exact .pop _
  · exact .refl _

theorem Controller.moves_zeroOthers (x : Controller) : Controller.Moves free x x.zeroOthers := by
  have hfold : ∀ (l : List Counted) (y : Controller), Controller.Moves free y
      (l.foldl (fun y k => if x.recordState (sourceOf k) = some .latched then y else y.zeroCount k) y) := by
    intro l
    induction l with
    | nil => exact fun y => .refl y
    | cons k l ih =>
      intro y
      refine .trans ?_ (ih _)
      dsimp only
      split
      · exact .refl _
      · exact .count _ _ _ fun _ => Nat.zero_le _
  exact hfold _ _

/-- A CLEAR frees every source but CONFIG and SUPPLY (R137). -/
theorem State.moves_takeClear (s : State) (hf : ∀ src, src ≠ .config → src ≠ .supply → free src) :
    Controller.Moves free s.ctl s.takeClear.ctl := by
  unfold State.takeClear
  refine .trans (s.ctl.moves_zeroOthers.from rfl) ?_
  refine ((State.moves_driveClear (s.setCtl s.ctl.zeroOthers) (hf _ (by decide) (by decide))).trans ?_).from rfl
  refine (State.moves_brushClear _ .c0 (hf _ (by decide) (by decide))).trans ?_
  refine (State.moves_brushClear _ .c1 (hf _ (by decide) (by decide))).trans ?_
  exact (State.moves_sprayClear _ (hf _ (by decide) (by decide))).trans
    (State.moves_linkClear _ (hf _ (by decide) (by decide)))

theorem clampNat_mem (lo hi v : Nat) (h : lo ≤ hi) : lo ≤ clampNat lo hi v ∧ clampNat lo hi v ≤ hi := by
  unfold clampNat; omega

theorem State.moves_takeOther (s : State) (k : CmdKind)
    (hf : k = .clear → ∀ src, src ≠ .config → src ≠ .supply → free src) :
    Controller.Moves free s.ctl (s.takeOther k).ctl := by
  cases k with
  | mode | wake => exact .refl _
  | direction | brush => exact .of_fields ⟨rfl, rfl, rfl, rfl, rfl, rfl, rfl, rfl, rfl⟩
  | limit v => exact .limit _ _ (Nat.min_le_right _ _)
  | spray on rate =>
    exact .trans (.rate _ _ (clampNat_mem 5 100 rate.toNat (by decide)))
      (.of_fields ⟨rfl, rfl, rfl, rfl, rfl, rfl, rfl, rfl, rfl⟩)
  | clear => exact s.moves_takeClear (hf rfl)

theorem State.moves_takeHead (s : State)
    (hf : s.headIs .clear = true → ∀ src, src ≠ .config → src ≠ .supply → free src) :
    Controller.Moves free s.ctl s.takeHead.ctl := by
  cases hk : s.headOther with
  | none => exact .of_eq (by rw [State.takeHead, hk])
  | some k =>
    have htake : s.takeHead = s.popped.takeOther k := by rw [State.takeHead, hk]
    have hpop : Controller.Moves free s.ctl s.popped.ctl := .pop _
    have hclear : k = .clear → s.headIs .clear = true := by
      rintro rfl
      rw [State.headIs, hk]
      rfl
    rw [htake]
    exact hpop.trans (s.popped.moves_takeOther k fun hc => hf (hclear hc))

/-! The loader (10) -/

theorem State.moves_startControl (s : State) (mode : Mode) (record : Option FaultCode)
    (hrate : 5 ≤ s.cfg.spray.rate ∧ s.cfg.spray.rate ≤ 100) :
    Controller.Moves free s.ctl (s.startControl mode record).ctl := by
  have hset : Controller.Moves free s.ctl
      { s.ctl with
        mode := mode, standbyReturn := mode, warmupTimer := if mode = .warmup then some s.now else none,
        sprayRate := s.cfg.spray.rate } :=
    .trans (.rate _ _ hrate) (.of_fields ⟨rfl, rfl, rfl, rfl, rfl, rfl, rfl, rfl, rfl⟩)
  unfold State.startControl
  cases record with
  | none => exact hset
  | some code => exact hset.trans (.put _ _ _ _ fun _ => .inl rfl)

/-- The spray rate of a station without a configuration (R167). -/
theorem limp_rate : 5 ≤ Image.blank.spray.rate ∧ Image.blank.spray.rate ≤ 100 := by decide

theorem State.moves_endFailed (s : State) (code : FaultCode) : Controller.Moves free s.ctl (s.endFailed code).ctl := by
  unfold State.endFailed
  simpa using (State.moves_startControl { s with loader := s.loader.finish .failed none false } .limp (some code)
    limp_rate).from rfl

theorem State.moves_endGood (s : State) (fields : List Byte) : Controller.Moves free s.ctl (s.endGood fields).ctl := by
  unfold State.endGood
  simpa using (State.moves_startControl
    { s with loader := s.loader.finish .good (some (loadImage fields)) (loadClamped fields) } .warmup
    (if loadShort fields then some .schedule else none) (clampNat_mem 5 100 _ (by decide))).from rfl

theorem State.moves_release (s : State) (straps : BitVec 4) : Controller.Moves free s.ctl (s.release straps).ctl := by
  unfold State.release
  dsimp only
  split
  · exact .refl _
  · unfold State.endIllegal
    refine (State.moves_startControl _ .limp (some .strap) ?_).from rfl
    exact limp_rate

theorem State.moves_takeMarker (s : State) (b0 b1 l : Byte) : Controller.Moves free s.ctl (s.takeMarker b0 b1 l).ctl := by
  unfold State.takeMarker
  split_ifs
  · exact s.moves_endFailed _
  · exact s.moves_endFailed _
  · exact .refl _

theorem State.moves_takeBlock (s : State) (fields : List Byte) (hi lo : Byte) :
    Controller.Moves free s.ctl (s.takeBlock fields hi lo).ctl := by
  unfold State.takeBlock
  split
  · exact s.moves_endGood _
  · exact s.moves_endFailed _

end Operations

/-! ### What each command does to the mode controller -/

theorem State.headIs_unique {s : State} {j k : CmdName} (hj : s.headIs j = true) (hk : s.headIs k = true) : j = k := by
  unfold State.headIs at hj hk
  cases hh : s.headOther with
  | none => simp [hh] at hj
  | some c =>
    rw [hh, Option.any_some] at hj hk
    cases c <;> cases j <;> cases hj <;> cases k <;> cases hk <;> rfl

/-- Every effect but a CLEAR's is a chain of moves that free SUPPLY alone. -/
theorem effects_move : Effects fun a u => Controller.Moves (· = .supply) a.ctl u.ctl where
  release s x _ := s.moves_release x
  status s x _ := .of_eq (by simp)
  failed s _ := s.moves_endFailed _
  marker s b0 b1 l _ := s.moves_takeMarker b0 b1 l
  block s f hi lo _ := s.moves_takeBlock f hi lo
  drive s _ := s.moves_driveStep
  brush s c _ := s.moves_brushStep c
  spray s _ := s.moves_sprayStep
  state s f _ := s.moves_receiveState f
  fresh s n _ := .refl _
  stale s n _ := .refl _
  command s f _ := s.moves_receiveCommand f rfl
  discard s f _ := .of_eq (by simp)
  period s _ := .refl _
  start s _ := .refl _
  arbitration s _ := .refl _
  bitError s _ := s.moves_abandon
  complete s _ := s.moves_sentToCompletion
  listen s _ := s.moves_listenEnd
  quiet s _ := .recovering _ _
  rouse s _ _ := .refl _
  doze s _ := .refl _
  idle s _ := .refl _
  follow s _ := .refl _
  check s _ := s.moves_modeCheck rfl
  takeMode s _ := s.moves_takeHeadMode
  take s k hk hne := s.moves_takeHead fun hc => absurd (State.headIs_unique hk hc) hne
  window s k _ := .count _ _ _ fun _ => Nat.zero_le _
  edge s k _ := .of_eq (by simp)
  timeout s k _ := .refl _
  single s x := s.moves_singleOrLate x rfl
  senseOpen s x _ := s.moves_single x rfl
  coarse s x _ := .refl _
  fine s x _ := .of_eq (by simp)
  pwm s c _ := .of_eq (by simp)

/-- One effect property follows from another that implies it. -/
theorem Effects.mono {R R' : State → State → Prop} (h : Effects R) (hm : ∀ a u, R a u → R' a u) : Effects R' :=
  ⟨fun _ _ c => hm _ _ (h.release _ _ c), fun _ _ c => hm _ _ (h.status _ _ c), fun _ c => hm _ _ (h.failed _ c),
    fun _ _ _ _ c => hm _ _ (h.marker _ _ _ _ c), fun _ _ _ _ c => hm _ _ (h.block _ _ _ _ c),
    fun _ c => hm _ _ (h.drive _ c), fun _ _ c => hm _ _ (h.brush _ _ c), fun _ c => hm _ _ (h.spray _ c),
    fun _ _ c => hm _ _ (h.state _ _ c), fun _ _ c => hm _ _ (h.fresh _ _ c), fun _ _ c => hm _ _ (h.stale _ _ c),
    fun _ _ c => hm _ _ (h.command _ _ c), fun _ _ c => hm _ _ (h.discard _ _ c), fun _ c => hm _ _ (h.period _ c),
    fun _ c => hm _ _ (h.start _ c), fun _ c => hm _ _ (h.arbitration _ c), fun _ c => hm _ _ (h.bitError _ c),
    fun _ c => hm _ _ (h.complete _ c), fun _ c => hm _ _ (h.listen _ c), fun _ c => hm _ _ (h.quiet _ c),
    fun _ c d => hm _ _ (h.rouse _ c d), fun _ c => hm _ _ (h.doze _ c), fun _ c => hm _ _ (h.idle _ c),
    fun _ c => hm _ _ (h.follow _ c), fun _ c => hm _ _ (h.check _ c), fun _ c => hm _ _ (h.takeMode _ c),
    fun _ _ c d => hm _ _ (h.take _ _ c d), fun _ _ c => hm _ _ (h.window _ _ c), fun _ _ c => hm _ _ (h.edge _ _ c),
    fun _ _ c => hm _ _ (h.timeout _ _ c), fun _ _ => hm _ _ (h.single _ _), fun _ _ c => hm _ _ (h.senseOpen _ _ c),
    fun _ _ c => hm _ _ (h.coarse _ _ c), fun _ _ c => hm _ _ (h.fine _ _ c), fun _ _ c => hm _ _ (h.pwm _ _ c)⟩

/-- Settles O4: every command makes a chain of moves, and each move keeps the bounds. -/
theorem controllerBoundsKeptByEveryStep : Obligations.ControllerBoundsKeptByEveryStep := by
  intro s t hs he
  refine Effects.step (P := fun s => s.ctl.Wf) (effects_move.mono fun a u h => h.wf) (fun _ _ h => h)
    (fun s b h => (s.moves_finish (free := fun _ => True) b).wf h)
    (fun s _ h => (s.moves_takeHead (free := fun _ => True) fun _ _ _ _ => trivial).wf h) (fun _ _ h => h) (fun s m _ => ?_)
    he hs
  exact resetMeetsEveryForm.2.1

/-! ### LATCHED records stand until a CLEAR (R137) -/

/-- A record that no take frees stands through one take. -/
theorem State.takeOne_latched {s : State} {src : Source} (ht : s.takeable = true) (hsrc : src ≠ .supply)
    (hclear : src = .config ∨ s.headIs .clear = false) (h : s.ctl.recordState src = some .latched) :
    s.takeOne.ctl.recordState src = some .latched := by
  obtain ⟨-, e⟩ | ⟨k, hk, e⟩ := State.takeOne_cases ht <;> rw [e]
  · exact ((s.moves_takeHeadMode (free := (· = .supply))).trans (State.moves_finish _ _)).latched hsrc h
  · have hfree : s.headIs .clear = true → ∀ x : Source, x ≠ .config → x ≠ .supply → x ≠ src := by
      intro hc x hx _ e
      rcases hclear with h | h
      · exact hx (e.trans h)
      · rw [h] at hc; cases hc
    exact ((s.moves_takeHead (free := fun x => x ≠ src) hfree).trans (State.moves_finish _ _)).latched (fun h => h rfl) h

/-- A head that is a CLEAR stands in the queue. -/
theorem State.mem_queue_of_headIs_clear {s : State} (h : s.headIs .clear = true) : ∃ c ∈ s.ctl.queue, c.kind = .clear := by
  have hother : s.headOther = some .clear := by
    unfold State.headIs at h
    cases hh : s.headOther with
    | none => rw [hh] at h; cases h
    | some k => rw [hh, Option.any_some] at h; cases k <;> cases h; rfl
  unfold State.headOther at hother
  split at hother
  · cases hother
  · split at hother
    · cases hother
    · rw [Controller.head, Option.map_eq_some_iff] at hother
      obtain ⟨c, hc, hk⟩ := hother
      exact ⟨c, List.mem_of_mem_head? hc, hk⟩

/-- The takes that are due leave a LATCHED record that no CLEAR among them frees. -/
theorem State.takeDue_latched {s : State} {src : Source} (hsrc : src ≠ .supply)
    (hclear : src = .config ∨ ∀ c ∈ s.ctl.queue, c.kind ≠ .clear) (h : s.ctl.recordState src = some .latched) :
    s.takeDue.ctl.recordState src = some .latched := by
  unfold State.takeDue
  generalize s.ctl.queue.length = n
  induction n generalizing s with
  | zero => exact h
  | succ n ih =>
    unfold State.takes
    split
    · rename_i ht
      refine ih (hclear.imp_right fun hq => ?_) (State.takeOne_latched ht hsrc (hclear.imp_right fun hq => ?_) h)
      · rw [State.takeOne_ctl_queue ht]
        exact fun c hc => hq c (List.mem_of_mem_drop hc)
      · refine Bool.eq_false_iff.mpr fun hc => ?_
        obtain ⟨c, hc, hk⟩ := State.mem_queue_of_headIs_clear hc
        exact hq c hc hk
    · exact h

/-- Settles O9: only a CLEAR's moves free a LATCHED record, and never CONFIG's. -/
theorem latchedRecordsStandUntilClear : Obligations.LatchedRecordsStandUntilClear := by
  intro i s t src he hr hsrc hclear h
  have hdue : s.takeDue.ctl.recordState src = some .latched := by
    rcases hclear with hc | ⟨-, ht⟩ | hq
    · exact State.takeDue_latched hsrc (.inl hc) h
    · rwa [State.takeDue_of_not_takeable ht]
    · exact State.takeDue_latched hsrc (.inr hq) h
  cases hk : isTakeRow i
  · obtain rfl | ⟨u, hu, rfl⟩ := effects_move.exec hr hk he
    · exact hdue
    · exact (hu.trans (u.moves_finish _)).latched hsrc hdue
  · obtain ⟨ht, -, rfl⟩ | rfl := exec_take hk he
    · refine State.takeOne_latched ht hsrc ?_ h
      rcases hclear with hc | ⟨-, hf⟩ | hq
      · exact .inl hc
      · rw [hf] at ht; cases ht
      · refine .inr (Bool.eq_false_iff.mpr fun hc => ?_)
        obtain ⟨c, hc, hk⟩ := State.mem_queue_of_headIs_clear hc
        exact hq c hc hk
    · exact hdue

end Sys2Proof.Machine

/-! The forms of the link, the output stage, the capture unit and the peer table that every step keeps (06, section 6.4; R10, R28,
R158; R140 to R146; R92 to R98). -/

namespace Sys2Proof.Machine

/-! ### The link outside ACTIVE (06, section 6.4) -/

/-- A link in ACTIVE has nothing to keep but its abandon count. -/
theorem Link.wf_of_active {l : Link} (h : l.state = .active) (ha : l.abandons < 8) : l.Wf :=
  ⟨fun hn => absurd h hn, fun hn => absurd h hn, fun hn => absurd h hn, ha⟩

/-- A link with nothing pending and no period, whose frame in flight is being finished, may be in any state. -/
theorem Link.wf_of_quiet {l : Link} (hp : l.pending = none) (ht : l.periodTimer = none)
    (hf : l.inFlight ≠ none → l.finishing = true) (ha : l.abandons < 8) : l.Wf :=
  ⟨fun _ => hp, fun _ => ht, fun _ => hf, ha⟩

/-- After a restart nothing is pending, no period runs, and a frame in flight is being finished (R116). -/
theorem Link.restart_spec (l : Link) :
    l.restart.pending = none ∧ l.restart.periodTimer = none ∧ l.restart.abandons = 0 ∧ l.restart.inFlight = l.inFlight ∧
      l.restart.finishing = l.inFlight.isSome := by
  unfold Link.restart; dsimp only; split <;> simp [Link.hunt]

theorem Link.wf_of_restart {l m : Link} (h : m = { l.restart with
    state := m.state, latched := m.latched, listenTimer := m.listenTimer, clashTimer := m.clashTimer, wakeTimer := m.wakeTimer,
    receiver := m.receiver, recessive := m.recessive }) : m.Wf := by
  obtain ⟨hp, ht, ha, hf, hfin⟩ := l.restart_spec
  rw [h]
  refine Link.wf_of_quiet hp ht (fun hn => ?_) (by show l.restart.abandons < 8; omega)
  show l.restart.finishing = true
  rw [hfin]
  exact Option.isSome_iff_ne_none.mpr (hf ▸ hn)

/-- What only the receiver and the timers of the link change. -/
theorem Link.Wf.of_same {l m : Link} (h : l.Wf) (hs : m.state = l.state) (hp : m.pending = l.pending)
    (ht : m.periodTimer = l.periodTimer) (hf : m.inFlight = l.inFlight) (hn : m.finishing = l.finishing)
    (ha : m.abandons = l.abandons) : m.Wf := by
  obtain ⟨h1, h2, h3, h4⟩ := h
  constructor <;> simp_all

theorem Link.Wf.toActive (l : Link) : l.toActive.Wf := Link.wf_of_active rfl (by show 0 < 8; decide)

theorem State.listenOnly_linkWf (s : State) : s.listenOnly.link.Wf := Link.wf_of_restart (l := s.link) rfl

theorem State.clash_linkWf {s : State} (h : s.link.Wf) : s.clash.link.Wf := by
  unfold State.clash
  dsimp only
  split
  · exact Link.wf_of_restart (l := { s.link with clashTimer := some s.now }) rfl
  · exact Link.wf_of_restart (l := { s.link with clashTimer := some s.now }) rfl
  · exact h.of_same rfl rfl rfl rfl rfl rfl
  all_goals exact h

theorem State.linkClear_linkWf {s : State} (h : s.link.Wf) : s.linkClear.link.Wf := by
  unfold State.linkClear
  split
  · exact Link.wf_of_active rfl (by show 0 < 8; decide)
  · exact h

theorem State.linkStandby_linkWf {s : State} (h : s.link.Wf) : s.linkStandby.link.Wf := by
  unfold State.linkStandby
  split
  case h_1 | h_2 | h_3 => exact Link.wf_of_restart (l := s.link) rfl
  all_goals exact h

theorem State.linkLeaveStandby_linkWf {s : State} (h : s.link.Wf) : s.linkLeaveStandby.link.Wf := by
  unfold State.linkLeaveStandby
  split
  case h_1 hs | h_2 hs =>
    split
    · have hne : s.link.state ≠ .active := by rw [hs]; decide
      exact Link.wf_of_quiet (h.pending hne) (h.period hne) (h.flight hne) h.abandons
    · exact Link.Wf.toActive _
  all_goals exact h

theorem State.abandon_linkWf {s : State} (h : s.link.Wf) : s.abandon.link.Wf := by
  unfold State.abandon
  dsimp only
  split
  · exact State.listenOnly_linkWf _
  · rename_i hc
    have ha : (if (s.link.state == .active && !s.link.finishing) = true then s.link.abandons + 1 else s.link.abandons) < 8 := by
      have := h.abandons
      split
      · exact Nat.lt_of_not_le fun h8 => hc ⟨‹_›, h8⟩
      · exact this
    split <;> exact ⟨h.pending, h.period, fun _ hn => absurd rfl hn, ha⟩

theorem Link.loseArbitration_wf {l : Link} (h : l.Wf) : l.loseArbitration.Wf := by
  have hp : l.state ≠ .active → (if l.finishing || l.pending.isSome then l.pending else l.inFlight) = none := by
    intro hs
    split
    · exact h.pending hs
    · rename_i hn
      by_contra hf
      simp [h.flight hs hf] at hn
  unfold Link.loseArbitration
  dsimp only
  split <;> exact ⟨hp, h.period, fun _ hn => absurd rfl hn, h.abandons⟩

theorem State.complete_linkWf {s : State} (h : s.link.Wf) (f : OwnFrame) : (s.complete f).link.Wf := by
  refine ⟨h.pending, h.period, fun _ hn => absurd rfl hn, ?_⟩
  show (if _ then 0 else s.link.abandons) < 8
  split
  · decide
  · exact h.abandons

theorem State.receiveState_linkWf {s : State} (h : s.link.Wf) (f : BusFrame) : (s.receiveState f).link.Wf := by
  have he : (s.frameEnded f).link.Wf := h.of_same rfl rfl rfl rfl rfl rfl
  unfold State.receiveState State.handState
  split
  · split_ifs
    · exact he
    · exact State.clash_linkWf he
    · simpa using he
  · exact h

theorem State.leaveStandby_linkWf {s : State} (h : s.link.Wf) : s.leaveStandby.link.Wf := by
  rw [State.leaveStandby_eq]
  refine State.linkLeaveStandby_linkWf ?_
  unfold State.wakeSupply
  split <;> simpa [State.wakeScan] using h

theorem State.enterStandby_linkWf {s : State} (h : s.link.Wf) : s.enterStandby.link.Wf := by
  have : s.enterStandby.link = s.channelsStandby.peersStandby.linkStandby.link := by unfold State.enterStandby; simp
  rw [this]
  exact State.linkStandby_linkWf (by simpa using h)

theorem State.modeCheck_linkWf {s : State} (h : s.link.Wf) : s.modeCheck.link.Wf := by
  unfold State.modeCheck
  dsimp only
  split
  · exact h
  · exact State.leaveStandby_linkWf h
  · split
    · exact State.enterStandby_linkWf h
    · exact h
  · exact h
  · exact h
  · split_ifs
    · exact h
    · exact h
    · exact State.enterStandby_linkWf h

theorem State.takeHead_linkWf {s : State} (h : s.link.Wf) : s.takeHead.link.Wf := by
  unfold State.takeHead
  split
  · rename_i k _
    cases k
    case clear => exact State.linkClear_linkWf (by simpa using h)
    all_goals exact h
  · exact h

theorem State.finish_linkWf {s : State} (h : s.link.Wf) (b : LinkState) : (s.finish b).link.Wf := by
  rw [State.finish_link]
  split
  · rename_i hs
    exact Link.wf_of_active hs.1 h.abandons
  · exact h

theorem effects_linkWf : Effects fun a u => a.link.Wf → u.link.Wf where
  release s x _ h := by simpa using h
  status s x _ h := h
  failed s _ _ := Link.Wf.toActive _
  marker s b0 b1 l _ h := by
    unfold State.takeMarker
    split_ifs
    · exact Link.Wf.toActive _
    · exact Link.Wf.toActive _
    · exact h
  block s f hi lo _ h := by
    unfold State.takeBlock
    split
    · exact Link.Wf.toActive _
    · exact Link.Wf.toActive _
  drive s _ h := by simpa using h
  brush s c _ h := by simpa using h
  spray s _ h := by simpa using h
  state s f _ h := State.receiveState_linkWf h f
  fresh s n _ h := h
  stale s n _ h := h
  command s f _ h := by
    unfold State.receiveCommand State.handCommand
    split
    · have he : (s.frameEnded f).link.Wf := h.of_same rfl rfl rfl rfl rfl rfl
      split_ifs
      · exact he
      · exact State.leaveStandby_linkWf he
      · exact he
      · exact he
    · exact h
  discard s f _ h := by
    unfold State.discardFrame
    split
    case h_6 | h_7 => exact h
    all_goals exact h.of_same rfl rfl rfl rfl rfl rfl
  period s hd h := by
    simp only [State.periodDue, Bool.and_eq_true, beq_iff_eq] at hd
    exact Link.wf_of_active hd.1 h.abandons
  start s hd h := by
    simp only [Link.startDue, Bool.and_eq_true, beq_iff_eq] at hd
    exact Link.wf_of_active hd.1.1.1 h.abandons
  arbitration s _ h := Link.loseArbitration_wf h
  bitError s _ h := State.abandon_linkWf h
  complete s _ h := by
    unfold State.sentToCompletion
    split
    · exact State.complete_linkWf h _
    · exact h
  listen s _ h := by
    unfold State.listenEnd
    split
    · exact h.of_same rfl rfl rfl rfl rfl rfl
    · exact Link.Wf.toActive _
  quiet s _ h := Link.Wf.toActive _
  rouse s hs _ h := by
    have hne : s.link.state ≠ .active := by rw [hs]; decide
    exact Link.wf_of_quiet (h.pending hne) (h.period hne) (h.flight hne) h.abandons
  doze s _ _ := Link.wf_of_restart (l := s.link) rfl
  idle s _ h := h.of_same rfl rfl rfl rfl rfl rfl
  follow s _ h := h.of_same rfl rfl rfl rfl rfl rfl
  check s _ h := State.modeCheck_linkWf h
  takeMode s _ h := by simpa using h
  take s k hk hne h := State.takeHead_linkWf h
  window s k _ h := h
  edge s k _ h := by simpa using h
  timeout s k _ h := h
  single s x h := by simpa using h
  senseOpen s x _ h := by simpa using h
  coarse s x _ h := h
  fine s x _ h := by simpa using h
  pwm s c _ h := by simpa using h

/-- Settles O5: the end of an event builds a frame in ACTIVE alone, and every entry to another state restarts the link. -/
theorem linkQuietOutsideActiveKeptByEveryStep : Obligations.LinkQuietOutsideActiveKeptByEveryStep := by
  intro s t hs he
  exact Effects.step (P := fun s => s.link.Wf) effects_linkWf (fun _ _ h => h) (fun _ b h => State.finish_linkWf h b)
    (fun _ _ h => State.takeHead_linkWf h) (fun _ _ h => h) (fun _ _ _ => resetMeetsEveryForm.2.2.1) he hs

/-! ### The output stage (R10, R28, R158) -/

/-- LIFT and FLOAT of one arm are not set together, and at most one drive coil has a duty written. -/
structure Outputs.Exclusive (o : Outputs) : Prop where
  arm0 : ¬(o.lift0 = true ∧ o.float0 = true)
  arm1 : ¬(o.lift1 = true ∧ o.float1 = true)
  drive : o.driveF.shadow = 0 ∨ o.driveR.shadow = 0

/-- Only the arm valves and the duties written to the drive coils bear on the exclusions. -/
theorem Outputs.Exclusive.of_same {o p : Outputs} (h : o.Exclusive)
    (hs : p.lift0 = o.lift0 ∧ p.float0 = o.float0 ∧ p.lift1 = o.lift1 ∧ p.float1 = o.float1 ∧
      p.driveF.shadow = o.driveF.shadow ∧ p.driveR.shadow = o.driveR.shadow) : p.Exclusive := by
  obtain ⟨h1, h2, h3, h4, h5, h6⟩ := hs
  exact ⟨by rw [h1, h2]; exact h.arm0, by rw [h3, h4]; exact h.arm1, by rw [h5, h6]; exact h.drive⟩

/-- LIFT belongs to RAISING and FLOAT to the working states (R28). -/
theorem Brush.not_lifting_and_working (b : Brush) : ¬(b.lifting = true ∧ b.state.working = true) := by
  rintro ⟨hl, hw⟩
  simp only [Brush.lifting, Bool.and_eq_true, beq_iff_eq] at hl
  rw [hl.1] at hw
  cases hw

theorem Outputs.Exclusive.driveArm {o : Outputs} (h : o.Exclusive) (c : Chan) (b : Brush) : (o.driveArm c b).Exclusive := by
  cases c
  · exact ⟨b.not_lifting_and_working, h.arm1, h.drive⟩
  · exact ⟨h.arm0, b.not_lifting_and_working, h.drive⟩

/-- A coil replaced by one with the same duty written. -/
theorem Outputs.Exclusive.setCoil {o : Outputs} (h : o.Exclusive) {c : Coil} {x : CoilOut}
    (hx : x.shadow = (o.coil c).shadow) : (o.setCoil c x).Exclusive := by
  cases c <;> refine h.of_same ⟨rfl, rfl, rfl, rfl, ?_, ?_⟩ <;> first | exact hx | rfl

namespace State

theorem setBrush_exclusive {s : State} (h : s.out.Exclusive) (c : Chan) (b : Brush) : (s.setBrush c b).out.Exclusive := by
  rw [State.setBrush_out]; exact h.driveArm c b

theorem setSpray_exclusive {s : State} (h : s.out.Exclusive) (x : Spray) : (s.setSpray x).out.Exclusive :=
  h.of_same ⟨rfl, rfl, rfl, rfl, rfl, rfl⟩

theorem setCtl_exclusive {s : State} (h : s.out.Exclusive) (x : Controller) : (s.setCtl x).out.Exclusive := h

theorem setConv_exclusive {s : State} (h : s.out.Exclusive) (x : Converter) : (s.setConv x).out.Exclusive := h

theorem setOut_exclusive {s : State} {o : Outputs} (h : o.Exclusive) : (s.setOut o).out.Exclusive := h

theorem setPark_exclusive {s : State} (h : s.out.Exclusive) (b : Bool) : (s.setPark b).out.Exclusive :=
  h.of_same ⟨rfl, rfl, rfl, rfl, rfl, rfl⟩

theorem syncBoost_exclusive {s : State} (h : s.out.Exclusive) : s.syncBoost.out.Exclusive :=
  h.of_same ⟨rfl, rfl, rfl, rfl, rfl, rfl⟩

theorem writeDriveCoils_exclusive {s : State} (h : s.out.Exclusive) {f r : Nat} (hfr : f = 0 ∨ r = 0) :
    (s.writeDriveCoils f r).out.Exclusive := ⟨h.arm0, h.arm1, hfr⟩

theorem driveOff_exclusive {s : State} (h : s.out.Exclusive) : s.driveOff.out.Exclusive :=
  setPark_exclusive (writeDriveCoils_exclusive h (.inl rfl)) false

theorem coilStage_exclusive {s : State} (h : s.out.Exclusive) : s.coilStage.out.Exclusive := by
  unfold State.coilStage
  refine writeDriveCoils_exclusive h ?_
  cases s.drive.engaged <;> simp

theorem driveStep_exclusive {s : State} (h : s.out.Exclusive) : s.driveStep.out.Exclusive := by
  have ha : s.pedalStage.out.Exclusive := by simpa using h
  unfold State.driveStep
  dsimp only
  split
  · exact setPark_exclusive (coilStage_exclusive (by simpa using h)) _
  · exact driveOff_exclusive (s := s.pedalStage.setDrive _) ha

theorem driveCoilReport_exclusive {s : State} (h : s.out.Exclusive) (code : FaultCode) :
    (s.driveCoilReport code).out.Exclusive := by
  unfold State.driveCoilReport
  split
  case h_5 | h_6 | h_7 => exact h
  all_goals exact driveOff_exclusive (s := s.setDrive _) h

theorem driveSupplyStart_exclusive {s : State} (h : s.out.Exclusive) : s.driveSupplyStart.out.Exclusive := by
  unfold State.driveSupplyStart
  split
  · exact driveOff_exclusive (s := s.setDrive _) h
  · exact h

theorem driveYield_exclusive {s : State} (h : s.out.Exclusive) : s.driveYield.out.Exclusive := by
  unfold State.driveYield
  split
  · exact syncBoost_exclusive (driveOff_exclusive (s := s.setDrive _) h)
  · exact h

theorem driveStandby_exclusive {s : State} (h : s.out.Exclusive) : s.driveStandby.out.Exclusive :=
  syncBoost_exclusive (driveOff_exclusive (s := s.setDrive _) h)

theorem rationStep_exclusive {s : State} (h : s.out.Exclusive) : s.rationStep.out.Exclusive := by
  unfold State.rationStep
  dsimp only
  split
  · exact syncBoost_exclusive h
  · exact h

theorem setBrushAndRecord_exclusive {s : State} (h : s.out.Exclusive) (c : Chan) (b : Brush) :
    (s.setBrushAndRecord c b).out.Exclusive := by
  unfold State.setBrushAndRecord
  dsimp only
  split <;> exact setBrush_exclusive h c b

theorem brushFault_exclusive {s : State} (h : s.out.Exclusive) (c : Chan) (code : FaultCode) :
    (s.brushFault c code).out.Exclusive := setBrush_exclusive (setCtl_exclusive h _) c _

theorem applyBrush_exclusive {s : State} (h : s.out.Exclusive) (c : Chan) (cause : BrushCause) :
    (s.applyBrush c cause).out.Exclusive := by
  unfold State.applyBrush
  dsimp only
  split
  case h_11 =>
    split
    · exact setBrush_exclusive (setCtl_exclusive h _) c _
    · exact setBrushAndRecord_exclusive (setCtl_exclusive h _) c _
  all_goals
    first
    | exact setBrush_exclusive h c _
    | exact setBrushAndRecord_exclusive h c _
    | exact brushFault_exclusive h c _

theorem brushStage1_exclusive {s : State} (h : s.out.Exclusive) (c : Chan) : (s.brushStage1 c).out.Exclusive := by
  unfold State.brushStage1
  split
  · simpa using applyBrush_exclusive h c _
  · exact h

theorem brushStage3_exclusive {s : State} (h : s.out.Exclusive) (c : Chan) : (s.brushStage3 c).out.Exclusive := by
  unfold State.brushStage3
  dsimp only
  split_ifs
  · exact setBrush_exclusive h c _
  · exact h
  · exact setBrush_exclusive h c _

theorem brushStep_exclusive {s : State} (h : s.out.Exclusive) (c : Chan) : (State.brushStep c s).out.Exclusive :=
  brushStage3_exclusive (brushStage3_exclusive (rationStep_exclusive
    (brushStage1_exclusive (brushStage1_exclusive h c) (otherChan c))) .c0) .c1

theorem brushCoilReport_exclusive {s : State} (h : s.out.Exclusive) (c : Chan) (code : FaultCode) :
    (s.brushCoilReport c code).out.Exclusive := by
  unfold State.brushCoilReport
  split
  case h_6 | h_7 | h_8 | h_9 => exact h
  all_goals exact brushFault_exclusive h c code

theorem brushSupplyStart_exclusive {s : State} (h : s.out.Exclusive) (c : Chan) : (s.brushSupplyStart c).out.Exclusive := by
  unfold State.brushSupplyStart
  split
  case h_6 | h_7 | h_8 | h_9 => exact h
  all_goals exact setBrush_exclusive h c _

theorem brushSupplyRelease_exclusive {s : State} (h : s.out.Exclusive) (c : Chan) :
    (s.brushSupplyRelease c).out.Exclusive := by
  unfold State.brushSupplyRelease
  split_ifs
  · exact setBrushAndRecord_exclusive h c _
  · exact setBrush_exclusive h c _
  · exact h

theorem brushClear_exclusive {s : State} (h : s.out.Exclusive) (c : Chan) : (s.brushClear c).out.Exclusive := by
  unfold State.brushClear
  dsimp only
  split_ifs
  · exact setBrush_exclusive (setCtl_exclusive h _) c _
  · exact setBrush_exclusive (setCtl_exclusive h _) c _
  · exact h
  · exact h

theorem brushStandby_exclusive {s : State} (h : s.out.Exclusive) (c : Chan) : (s.brushStandby c).out.Exclusive := by
  cases c <;> exact setBrush_exclusive h _ _

theorem applySpray_exclusive {s : State} (h : s.out.Exclusive) (cause : SprayCause) :
    (s.applySpray cause).out.Exclusive := by
  unfold State.applySpray
  dsimp only
  split
  case h_1 | h_15 => split <;> exact setSpray_exclusive (setCtl_exclusive h _) _
  all_goals exact setSpray_exclusive (setCtl_exclusive h _) _

theorem sprayStep_exclusive {s : State} (h : s.out.Exclusive) : s.sprayStep.out.Exclusive :=
  setSpray_exclusive (applySpray_exclusive h _) _

theorem sprayCoilReport_exclusive {s : State} (h : s.out.Exclusive) (code : FaultCode) :
    (s.sprayCoilReport code).out.Exclusive := by
  unfold State.sprayCoilReport
  split
  · exact setSpray_exclusive (setCtl_exclusive h _) _
  · exact h

theorem spraySupplyStart_exclusive {s : State} (h : s.out.Exclusive) : s.spraySupplyStart.out.Exclusive := by
  unfold State.spraySupplyStart
  split
  · exact setSpray_exclusive h _
  · exact h

theorem spraySupplyRelease_exclusive {s : State} (h : s.out.Exclusive) : s.spraySupplyRelease.out.Exclusive := by
  unfold State.spraySupplyRelease
  split
  · exact setSpray_exclusive h _
  · exact h

theorem sprayClear_exclusive {s : State} (h : s.out.Exclusive) : s.sprayClear.out.Exclusive := by
  unfold State.sprayClear
  dsimp only
  split_ifs
  · exact setSpray_exclusive (setCtl_exclusive h _) _
  · exact setSpray_exclusive (setCtl_exclusive h _) _
  · exact h
  · exact h

theorem startNotices_exclusive {s : State} (h : s.out.Exclusive) : s.startNotices.out.Exclusive :=
  spraySupplyStart_exclusive
    (brushSupplyStart_exclusive (brushSupplyStart_exclusive (driveSupplyStart_exclusive h) .c0) .c1)

theorem releaseNotices_exclusive {s : State} (h : s.out.Exclusive) : s.releaseNotices.out.Exclusive :=
  spraySupplyRelease_exclusive
    (brushSupplyRelease_exclusive (brushSupplyRelease_exclusive (by simpa using h) .c0) .c1)

theorem superviseSupply_exclusive {s : State} (h : s.out.Exclusive) (v : Nat) : (s.superviseSupply v).out.Exclusive := by
  unfold State.superviseSupply
  obtain ⟨cond, start, release⟩ := monitor s.cfg.general.voltage s.out.supply s.out.startTimer s.out.releaseTimer v s.now
  have ht : ({ s.out with supply := cond, startTimer := start, releaseTimer := release } : Outputs).Exclusive :=
    h.of_same ⟨rfl, rfl, rfl, rfl, rfl, rfl⟩
  dsimp only
  split
  · refine setCtl_exclusive ?_ _
    exact startNotices_exclusive (setOut_exclusive ht)
  · refine setCtl_exclusive ?_ _
    exact releaseNotices_exclusive (setOut_exclusive ht)
  · exact ht
  · exact ht

theorem superviseLate_exclusive {s : State} (h : s.out.Exclusive) (v : Nat) : (s.superviseLate v).out.Exclusive := by
  unfold State.superviseLate
  split
  · exact h
  · exact h.of_same ⟨rfl, rfl, rfl, rfl, rfl, rfl⟩

theorem coilReport_exclusive {s : State} (h : s.out.Exclusive) (c : Coil) (code : FaultCode) :
    (s.coilReport c code).out.Exclusive := by
  cases c
  case driveF | driveR => exact driveCoilReport_exclusive h code
  case brush0 => exact brushCoilReport_exclusive h .c0 code
  case brush1 => exact brushCoilReport_exclusive h .c1 code
  case pump => exact sprayCoilReport_exclusive h code

theorem diagnose_exclusive {s : State} (h : s.out.Exclusive) (c : Coil) (v : Nat) : (s.diagnose c v).out.Exclusive := by
  have hx (x : CoilOut) (hx : x.shadow = (s.out.coil c).shadow) : (s.setOut (s.out.setCoil c x)).out.Exclusive := h.setCoil hx
  unfold State.diagnose
  dsimp only
  split_ifs
  · refine coilReport_exclusive ?_ c _
    exact hx { s.out.coil c with shortOff := true, openTimer := none } rfl
  · refine coilReport_exclusive ?_ c _
    exact hx { s.out.coil c with openArmed := false, openTimer := none } rfl
  · exact hx { s.out.coil c with openTimer := s.openTiming c v } rfl

theorem single_exclusive {s : State} (h : s.out.Exclusive) (code : Byte) : (s.single code).out.Exclusive := by
  unfold State.single State.afterSingle
  split
  · split
    · exact diagnose_exclusive (setConv_exclusive h _) _ _
    · split
      · exact superviseSupply_exclusive (setConv_exclusive h _) _
      · exact h
  · exact h

theorem enterStandby_exclusive {s : State} (h : s.out.Exclusive) : s.enterStandby.out.Exclusive := by
  have hb := brushStandby_exclusive (brushStandby_exclusive (driveStandby_exclusive h) .c0) .c1
  have hc : s.channelsStandby.out.Exclusive := setSpray_exclusive (by simpa using hb) _
  have : s.enterStandby.out = s.channelsStandby.peersStandby.linkStandby.captureStandby.supplyStandby.out := by
    unfold State.enterStandby; simp
  rw [this]
  exact Outputs.Exclusive.of_same (o := s.channelsStandby.peersStandby.linkStandby.captureStandby.out) (by simpa using hc)
    ⟨rfl, rfl, rfl, rfl, rfl, rfl⟩

theorem leaveStandby_exclusive {s : State} (h : s.out.Exclusive) : s.leaveStandby.out.Exclusive := by
  have hscan : s.wakeScan.out.Exclusive := h.of_same ⟨rfl, rfl, rfl, rfl, rfl, rfl⟩
  rw [State.leaveStandby_eq, (State.linkLeaveStandby_keeps _).2.2.2.2.2.2.2.2.2.2.2.2.2.1]
  unfold State.wakeSupply
  split
  · exact startNotices_exclusive hscan
  · exact hscan

theorem modeCheck_exclusive {s : State} (h : s.out.Exclusive) : s.modeCheck.out.Exclusive := by
  unfold State.modeCheck
  dsimp only
  split
  · exact h
  · exact leaveStandby_exclusive h
  · split
    · exact enterStandby_exclusive (setCtl_exclusive h _)
    · exact h
  · exact h
  · exact h
  · split_ifs
    · exact h
    · exact h
    · exact enterStandby_exclusive (setCtl_exclusive h _)

theorem takeClear_exclusive {s : State} (h : s.out.Exclusive) : s.takeClear.out.Exclusive := by
  have hb := brushClear_exclusive (s := (s.setCtl s.ctl.zeroOthers).driveClear) (by simpa using h) .c0
  unfold State.takeClear
  simpa using sprayClear_exclusive (brushClear_exclusive hb .c1)

theorem takeHead_exclusive {s : State} (h : s.out.Exclusive) : s.takeHead.out.Exclusive := by
  unfold State.takeHead
  split
  · rename_i k _
    cases k
    case clear => exact takeClear_exclusive (s := s.popped) h
    all_goals exact h
  · exact h

end State

theorem effects_exclusive : Effects fun a u => a.out.Exclusive → u.out.Exclusive where
  release s x _ h := by simpa using h
  status s x _ h := h
  failed s _ h := by simpa using h
  marker s b0 b1 l _ h := by simpa using h
  block s f hi lo _ h := by
    unfold State.takeBlock
    split
    · exact h.of_same ⟨rfl, rfl, rfl, rfl, rfl, rfl⟩
    · simpa using h
  drive s _ h := State.driveStep_exclusive h
  brush s c _ h := State.brushStep_exclusive h c
  spray s _ h := State.sprayStep_exclusive h
  state s f _ h := by
    unfold State.receiveState State.handState
    split
    · split_ifs
      · exact h
      · simpa using h
      · unfold State.arrival
        dsimp only
        split
        · exact State.driveYield_exclusive (by simpa using h)
        · exact h
    · exact h
  fresh s n _ h := h
  stale s n _ h := h
  command s f _ h := by
    unfold State.receiveCommand State.handCommand
    split
    · split_ifs
      · exact h
      · exact State.leaveStandby_exclusive (s := s.frameEnded f) h
      · exact h
      · exact h
    · exact h
  discard s f _ h := by simpa using h
  period s _ h := h
  start s _ h := h
  arbitration s _ h := h
  bitError s _ h := by simpa using h
  complete s _ h := by simpa using h
  listen s _ h := by simpa using h
  quiet s _ h := h
  rouse s _ _ h := h
  doze s _ h := h
  idle s _ h := h
  follow s _ h := h
  check s _ h := State.modeCheck_exclusive h
  takeMode s _ h := by simpa using h
  take s k _ _ h := State.takeHead_exclusive h
  window s k _ h := h
  edge s k _ h := by simpa using h
  timeout s k _ h := h
  single s x h := by
    unfold State.singleOrLate
    split
    · exact State.superviseLate_exclusive h _
    · exact State.single_exclusive h x
  senseOpen s x _ h := State.single_exclusive h x
  coarse s x _ h := h
  fine s x _ h := by simpa using h
  pwm s c _ h := by
    unfold State.pwmStart
    simpa using h.setCoil (c := c) (x := (s.out.coil c).periodStart s.now s.out.forcing) rfl

/-- Under forcing no proportional output runs, and no open timer does (R158, R160). -/
def Outputs.ForcedOff (o : Outputs) : Prop := o.forcing = true → ∀ c, (o.coil c).running = false ∧ (o.coil c).openTimer = none

theorem Outputs.wf_iff {o : Outputs} : o.Wf ↔ o.Exclusive ∧ o.ForcedOff :=
  ⟨fun h => ⟨⟨h.arm0, h.arm1, h.drive⟩, h.forced⟩, fun h => ⟨h.1.arm0, h.1.arm1, h.1.drive, h.2⟩⟩

theorem State.settle_forcedOff (s : State) : s.settle.out.ForcedOff := by
  intro hf c
  rw [State.settle_out_forcing] at hf
  rw [State.settle_out_coil, hf]
  exact ⟨rfl, rfl⟩

/-- Settles O6: the exclusions are kept by every effect, and forcing is set at the end of every event. -/
theorem outputExclusionsKeptByEveryStep : Obligations.OutputExclusionsKeptByEveryStep := by
  intro s t hs he
  rw [Outputs.wf_iff] at hs ⊢
  refine ⟨?_, ?_⟩
  · refine Effects.step (P := fun s => s.out.Exclusive) effects_exclusive (fun _ _ h => h) (fun s b h => ?_)
      (fun _ _ h => State.takeHead_exclusive h) (fun _ _ h => h) (fun _ _ _ => ?_) he hs.1
    · rw [State.finish_out]
      exact h.of_same ⟨rfl, rfl, rfl, rfl, CoilOut.forced_shadow _ _, CoilOut.forced_shadow _ _⟩
    · exact (Outputs.wf_iff.mp resetMeetsEveryForm.2.2.2.1).1
  · refine step_of_finish (P := fun s => s.out.ForcedOff) (fun s b => ?_) (fun _ _ h => h) (fun _ _ h => h)
      (fun _ _ => (Outputs.wf_iff.mp resetMeetsEveryForm.2.2.2.1).2) he hs.2
    rw [State.finish_out]
    exact s.settle_forcedOff

/-! ### The pulse inputs (R140 to R147) -/

theorem joinPeriod_length {h : List Nat} (hh : h.length ≤ 4) (p : Nat) : (joinPeriod h p).length ≤ 4 := by
  unfold joinPeriod
  split <;> simp <;> omega

theorem joinPeriod_ne_nil (h : List Nat) (p : Nat) : joinPeriod h p ≠ [] := by
  simp [joinPeriod]

theorem PulseInput.expired_wf (x : PulseInput) : x.expired.Wf := ⟨Nat.zero_le 4, fun _ => rfl, fun _ => ⟨rfl, rfl, rfl⟩⟩

theorem PulseInput.restartAt_wf (x : PulseInput) (now : Micros) : (x.restartAt now).Wf :=
  ⟨Nat.zero_le 4, fun _ => rfl, fun h => nomatch h⟩

theorem PulseInput.Wf.first {x : PulseInput} (h : x.Wf) (now : Micros) : (x.first now).Wf :=
  ⟨h.history, h.empty, fun h => nomatch h⟩

theorem PulseInput.Wf.period {x : PulseInput} (h : x.Wf) (i : Image) (k : Pulse) (r now : Micros) : (x.period i k r now).Wf :=
  ⟨joinPeriod_length h.history _, fun hn => absurd hn (joinPeriod_ne_nil _ _), fun h => nomatch h⟩

theorem PulseInput.Wf.edge {x : PulseInput} (h : x.Wf) (i : Image) (k : Pulse) (now : Micros) : (x.edge i k now).Wf := by
  unfold PulseInput.edge
  split
  · exact h.first now
  · split
    · exact h
    · exact h.period i k _ now

theorem PulseInput.Wf.overdue {x : PulseInput} (h : x.Wf) (timeout now : Micros) : (x.overdue timeout now).Wf := by
  unfold PulseInput.overdue
  split
  · exact x.expired_wf
  · exact h

@[simp] theorem Capture.setInput_input (c : Capture) (k : Pulse) (x : PulseInput) : (c.setInput k x).input k = x := by
  cases k <;> rfl

theorem Capture.setInput_input_ne (c : Capture) {k j : Pulse} (h : j ≠ k) (x : PulseInput) :
    (c.setInput k x).input j = c.input j := by
  cases k <;> cases j <;> first | rfl | exact absurd rfl h

theorem Capture.Wf.setInput {c : Capture} (h : c.Wf) (k : Pulse) {x : PulseInput} (hx : x.Wf) : (c.setInput k x).Wf := by
  intro j
  by_cases hj : j = k
  · subst hj
    rw [Capture.setInput_input]
    exact hx
  · rw [Capture.setInput_input_ne c hj]
    exact h j

/-- The WHEEL direction is no part of an input. -/
theorem Capture.Wf.of_inputs {c d : Capture} (h : c.Wf) (hs : ∀ k, d.input k = c.input k) : d.Wf := fun k => hs k ▸ h k

theorem Capture.Wf.wheelEdge {c : Capture} (h : c.Wf) (i : Image) (now : Micros) (rev : Bool) : (c.wheelEdge i now rev).Wf := by
  have hrestart : Capture.Wf { c with wheel := c.wheel.restartAt now, reverse := rev } :=
    (h.setInput .wheel (c.wheel.restartAt_wf now)).of_inputs fun k => by cases k <;> rfl
  have hedge : Capture.Wf { c with wheel := c.wheel.edge i .wheel now } := h.setInput .wheel ((h .wheel).edge i .wheel now)
  unfold Capture.wheelEdge
  dsimp only
  split
  · split
    · exact hrestart
    · exact hedge
  · split_ifs
    · exact h
    · exact hrestart
    · exact hedge

theorem State.takeEdge_captureWf {s : State} (h : s.capture.Wf) (k : Pulse) : (s.takeEdge k).capture.Wf := by
  have hc := h.setInput k ((h k).overdue (ms (s.cfg.zeroTimeout k)) s.now)
  have hx := ((h k).overdue (ms (s.cfg.zeroTimeout k)) s.now).edge s.cfg k s.now
  unfold State.takeEdge
  cases k
  case wheel => exact hc.wheelEdge _ _ _
  all_goals exact hc.setInput _ hx

theorem State.captureStandby_captureWf (s : State) : s.captureStandby.capture.Wf := by
  intro k
  cases k <;> exact ⟨Nat.zero_le 4, fun _ => rfl, fun _ => ⟨rfl, rfl, rfl⟩⟩

/-! ### The peer table (R92 to R98) -/

/-- A record that is ABSENT holds no fields, and its age runs in FRESH and STALE only. -/
def Peer.Wf (p : Peer) : Prop :=
  (p.fresh = .absent → p.fields = none ∧ p.period = none) ∧ p.age.isSome = p.fresh.heard

/-- A peer table with its 14 places in station order, every record well formed. -/
def PeersFormed (l : List Peer) : Prop :=
  l.map Peer.station = [1, 2, 3, 4, 5, 6, 7, 8, 9, 10, 11, 12, 13, 14] ∧ ∀ p ∈ l, p.Wf

theorem State.peersWf_iff (s : State) : s.PeersWf ↔ PeersFormed s.peers :=
  ⟨fun h => ⟨h.places, fun p hp => ⟨h.absent p hp, h.ages p hp⟩⟩,
    fun h => ⟨h.1, fun p hp => (h.2 p hp).1, fun p hp => (h.2 p hp).2⟩⟩

theorem Peer.cleared_wf (p : Peer) : p.cleared.Wf := by
  cases he : p.expected <;> simp [Peer.Wf, Peer.cleared, he, Freshness.heard]

theorem Peer.expired_wf (p : Peer) : p.expired.Wf := by
  unfold Peer.expired
  split
  · exact And.intro (fun h => nomatch h) rfl
  · exact p.cleared_wf

theorem Peer.arrive_wf (p : Peer) (f : StateFrame) (now : Micros) : (p.arrive f now).Wf := And.intro (fun h => nomatch h) rfl

theorem Peer.Wf.stale {p : Peer} (h : p.Wf) (hf : p.fresh = .fresh) : p.stale.Wf :=
  And.intro (fun h => nomatch h) (by show p.age.isSome = true; rw [h.2, hf]; rfl)

theorem Peer.expired_station (p : Peer) : p.expired.station = p.station := by
  unfold Peer.expired; split <;> rfl

/-- In a table with its places in order, a station number names one record. -/
theorem PeersFormed.unique {l : List Peer} (h : PeersFormed l) {p q : Peer} (hp : p ∈ l) (hq : q ∈ l)
    (he : p.station = q.station) : p = q :=
  List.inj_on_of_nodup_map (by rw [h.1]; decide) hp hq he

theorem State.mem_peers_of_peer {s : State} {n : Nat} {p : Peer} (h : s.peer n = some p) : p ∈ s.peers ∧ p.station = n := by
  refine ⟨List.mem_of_mem_filter (List.mem_of_find?_eq_some h), ?_⟩
  simpa using List.find?_some h

/-- A table whose records are replaced by well-formed ones, each in its place. -/
theorem PeersFormed.map {l : List Peer} (h : PeersFormed l) {g : Peer → Peer} (hst : ∀ p, (g p).station = p.station)
    (hg : ∀ p ∈ l, (g p).Wf) : PeersFormed (l.map g) := by
  refine ⟨?_, List.forall_mem_map.mpr hg⟩
  rw [← h.1, List.map_map]
  exact List.map_congr_left fun p _ => hst p

theorem State.updatePeer_formed {s : State} (h : PeersFormed s.peers) (n : Nat) {f : Peer → Peer}
    (hst : ∀ p, (f p).station = p.station) (hf : ∀ p ∈ s.peers, p.station = n → (f p).Wf) :
    PeersFormed (s.updatePeer n f).peers := by
  refine h.map (fun p => ?_) fun p hp => ?_
  · split
    · exact hst p
    · rfl
  · split
    · exact hf p hp (by simpa using ‹(p.station == n) = true›)
    · exact h.2 p hp

theorem State.arrival_formed {s : State} (h : PeersFormed s.peers) (f : StateFrame) : PeersFormed (s.arrival f).peers := by
  have hu := State.updatePeer_formed h f.station (f := fun p => p.arrive f s.now) (fun _ => rfl) fun p _ _ => p.arrive_wf f s.now
  unfold State.arrival
  dsimp only
  split
  · simpa using hu
  · exact hu

theorem State.peersStart_formed {s : State} (h : PeersFormed s.peers) (own : Nat) (expected : List Nat) :
    PeersFormed (s.peersStart own expected).peers := h.map (fun _ => rfl) fun _ _ => Peer.cleared_wf _

theorem State.peersStandby_formed {s : State} (h : PeersFormed s.peers) : PeersFormed s.peersStandby.peers :=
  h.map (fun _ => rfl) fun p _ => p.cleared_wf

/-! ### Both forms -/

/-- The capture unit and the peer table keep their form. -/
def State.CaptureAndPeersWf (s : State) : Prop := s.capture.Wf ∧ PeersFormed s.peers

theorem State.endFailed_captureAndPeersWf {s : State} (h : s.CaptureAndPeersWf) (code : FaultCode) :
    (s.endFailed code).CaptureAndPeersWf :=
  ⟨by simpa using h.1, State.peersStart_formed (s := s) h.2 s.loader.station []⟩

theorem State.endGood_captureAndPeersWf {s : State} (h : s.CaptureAndPeersWf) (fields : List Byte) :
    (s.endGood fields).CaptureAndPeersWf :=
  ⟨by simpa using h.1, State.peersStart_formed (s := s) h.2 s.loader.station (loadImage fields).general.expected⟩

theorem State.enterStandby_captureAndPeersWf {s : State} (h : s.CaptureAndPeersWf) : s.enterStandby.CaptureAndPeersWf := by
  have hp : PeersFormed s.channelsStandby.peersStandby.peers := State.peersStandby_formed (by simpa using h.2)
  unfold State.enterStandby
  exact ⟨by simpa using State.captureStandby_captureWf _, by simpa using hp⟩

theorem State.modeCheck_captureAndPeersWf {s : State} (h : s.CaptureAndPeersWf) : s.modeCheck.CaptureAndPeersWf := by
  unfold State.modeCheck
  dsimp only
  split
  · exact h
  · exact ⟨by simpa using h.1, by simpa using h.2⟩
  · split
    · exact State.enterStandby_captureAndPeersWf (s := s.setCtl _) h
    · exact h
  · exact h
  · exact h
  · split_ifs
    · exact h
    · exact h
    · exact State.enterStandby_captureAndPeersWf (s := s.setCtl _) h

theorem effects_captureAndPeersWf : Effects fun a u => a.CaptureAndPeersWf → u.CaptureAndPeersWf where
  release s x _ h := ⟨by simpa using h.1, by simpa using h.2⟩
  status s x _ h := h
  failed s _ h := State.endFailed_captureAndPeersWf h _
  marker s b0 b1 l _ h := by
    unfold State.takeMarker
    split_ifs
    · exact State.endFailed_captureAndPeersWf h _
    · exact State.endFailed_captureAndPeersWf h _
    · exact h
  block s f hi lo _ h := by
    unfold State.takeBlock
    split
    · exact State.endGood_captureAndPeersWf h f
    · exact State.endFailed_captureAndPeersWf h _
  drive s _ h := ⟨by simpa using h.1, by simpa using h.2⟩
  brush s c _ h := ⟨by simpa using h.1, by simpa using h.2⟩
  spray s _ h := ⟨by simpa using h.1, by simpa using h.2⟩
  state s f _ h := by
    unfold State.receiveState State.handState
    split
    · split_ifs
      · exact h
      · exact ⟨by simpa using h.1, by simpa using h.2⟩
      · exact ⟨by simpa using h.1, State.arrival_formed (s := s.frameEnded f) h.2 _⟩
    · exact h
  fresh s n hd h := by
    refine ⟨h.1, State.updatePeer_formed h.2 n (fun _ => rfl) fun p hp hn => (h.2.2 p hp).stale ?_⟩
    unfold State.freshDue at hd
    split at hd
    · rename_i q hq
      obtain ⟨hmem, hst⟩ := State.mem_peers_of_peer hq
      obtain rfl := h.2.unique hp hmem (hn.trans hst.symm)
      simp only [Bool.and_eq_true, beq_iff_eq] at hd
      exact hd.1
    · cases hd
  stale s n _ h := ⟨h.1, State.updatePeer_formed h.2 n Peer.expired_station fun p _ _ => p.expired_wf⟩
  command s f _ h := ⟨by simpa using h.1, by simpa using h.2⟩
  discard s f _ h := ⟨by simpa using h.1, by simpa using h.2⟩
  period s _ h := h
  start s _ h := h
  arbitration s _ h := h
  bitError s _ h := ⟨by simpa using h.1, by simpa using h.2⟩
  complete s _ h := ⟨by simpa using h.1, by simpa using h.2⟩
  listen s _ h := ⟨by simpa using h.1, by simpa using h.2⟩
  quiet s _ h := h
  rouse s _ _ h := h
  doze s _ h := h
  idle s _ h := h
  follow s _ h := h
  check s _ h := State.modeCheck_captureAndPeersWf h
  takeMode s _ h := ⟨by simpa using h.1, by simpa using h.2⟩
  take s k _ _ h := ⟨by simpa using h.1, by simpa using h.2⟩
  window s k _ h := h
  edge s k _ h := ⟨State.takeEdge_captureWf h.1 k, by simpa using h.2⟩
  timeout s k _ h := ⟨h.1.setInput k (PulseInput.expired_wf _), h.2⟩
  single s x h := ⟨by simpa using h.1, by simpa using h.2⟩
  senseOpen s x _ h := ⟨by simpa using h.1, by simpa using h.2⟩
  coarse s x _ h := h
  fine s x _ h := ⟨by simpa using h.1, by simpa using h.2⟩
  pwm s c _ h := ⟨by simpa using h.1, by simpa using h.2⟩

/-- Settles O7: every effect keeps the form of every pulse input and of every record of the peer table. -/
theorem captureAndPeersFormKeptByEveryStep : Obligations.CaptureAndPeersFormKeptByEveryStep := by
  intro s t hc hp he
  rw [State.peersWf_iff] at hp ⊢
  exact Effects.step (P := State.CaptureAndPeersWf) effects_captureAndPeersWf (fun _ _ h => h)
    (fun s b h => ⟨by simpa using h.1, by simpa using h.2⟩) (fun s _ h => ⟨by simpa using h.1, by simpa using h.2⟩) (fun _ _ h => h)
    (fun _ _ _ => ⟨resetMeetsEveryForm.2.2.2.2.1, (State.peersWf_iff State.reset).mp resetMeetsEveryForm.2.2.2.2.2⟩) he ⟨hc, hp⟩

end Sys2Proof.Machine

/-! The configuration loader (10; 11, section 11.4). -/

namespace Sys2Proof.Machine

/-! ### Events whose condition holds -/

/-- A row whose condition holds, with nothing takeable before it: its effect, and then what follows is set. -/
theorem exec_of_due {i : Instr} {s : State} {m : Moment} {due : State → Bool} {eff : State → State} (ht : s.takeable = false)
    (hd : due (s.arrive m) = true) (he : exec i s = .next (s.event m due eff)) :
    exec i s = .next ((eff (s.arrive m)).finish s.link.state) := by
  rw [he, State.event_due_of_not_takeable ht hd]

/-- A row whose effect leaves the figures that follow and the link state in order: its effect alone. -/
theorem exec_of_due_settled {i : Instr} {s : State} {m : Moment} {due : State → Bool} {eff : State → State} {u : State}
    (ht : s.takeable = false) (hd : due (s.arrive m) = true) (he : exec i s = .next (s.event m due eff))
    (hu : eff (s.arrive m) = u) (hs : u.Settled) (ho : u.out.Wf) (hl : u.link.state = s.link.state) : exec i s = .next u := by
  rw [exec_of_due ht hd he, hu, ← hl, hs.finish_eq ho]

/-- A timer that runs since `b` has run for `d` µs. -/
theorem ranFor_of_le {x : Timer} {b now d : Micros} (hx : x = some b) (h : b + d ≤ now) : ranFor x now d = true := by
  rw [hx]
  exact decide_eq_true h

/-! ### The start of the load (R165, R166) -/

theorem stationNumber_iff (n : Nat) : stationNumber n = true ↔ 1 ≤ n ∧ n ≤ 14 := by
  simp [stationNumber]

/-- Settles O12: the two outcomes of `State.release`, by the range of the number. -/
theorem resetReleaseSamplesTheStraps : Obligations.ResetReleaseSamplesTheStraps := by
  intro m straps s ht hh
  refine ⟨_, exec_of_due ht hh rfl, ?_⟩
  have hlt : straps.toNat < 16 := straps.isLt
  by_cases hn : stationNumber straps.toNat = true
  · have hr := (stationNumber_iff _).mp hn
    have hrel : (s.arrive m).release straps = ((s.arrive m).setConv { s.conv with place := some .pedalA, coarse := none }).setLoader
        { s.loader with
          resetHeld := false, station := straps.toNat, state := .reading, statusWait := some (s.arrive m).now,
          spiSelected := true, spiSent := [0x05#8], length := none } := by
      simp [State.release, hn]
    rw [hrel]
    refine ⟨by simp, by simp, by simp, ⟨by simp, by simp, by simp, by simp, by simp⟩, by simp, ?_, by simp, fun _ => ?_, fun h0 => ?_⟩
    · rw [State.finish_link_of_state (by simp)]; simp
    · simp
    · omega
  · have hr : ¬(1 ≤ straps.toNat ∧ straps.toNat ≤ 14) := fun h => hn ((stationNumber_iff _).mpr h)
    have hrel : (s.arrive m).release straps =
        (((s.arrive m).setConv { s.conv with place := some .pedalA, coarse := none }).setLoader
          { s.loader with resetHeld := false, station := straps.toNat }).endIllegal := by
      simp [State.release, hn]
    rw [hrel]
    refine ⟨by simp [State.endIllegal, Loader.finish], by simp [State.endIllegal, Loader.finish], by simp,
      ⟨by simp, by simp, by simp, by simp, by simp⟩, by simp, ?_, by simp, fun h => absurd h hr, fun _ => ?_⟩
    · rw [State.finish_link_of_state (by simp)]; simp
    · simp [State.endIllegal, Loader.finish, State.startControl]

/-! ### The memory's answers (R166, R174) -/

/-- No figure that follows reads more of the loader than the image. -/
theorem State.Settled.setLoader {s : State} (h : s.Settled) {l : Loader} (hi : l.image = s.loader.image) :
    (s.setLoader l).Settled := by
  have hcfg : (s.setLoader l).cfg = s.cfg := by simp [State.cfg, hi]
  have hdust : (s.setLoader l).dustStands = s.dustStands := by simp [State.dustStands, hcfg]
  refine ⟨?_, ?_, h.silent, h.lamp, h.forcing⟩
  · unfold State.contributions
    rw [hdust, hcfg]
    exact h.contrib
  · unfold State.composeCap State.modeCap
    rw [hcfg]
    exact h.cap

/-- A row that changes the loader alone, and not its image. -/
theorem exec_eq_setLoader {i : Instr} {s : State} {m : Moment} {due : State → Bool} {eff : State → State} {l : Loader}
    (ht : s.takeable = false) (hs : s.Settled) (ho : s.out.Wf) (hd : due (s.arrive m) = true)
    (he : exec i s = .next (s.event m due eff)) (hu : eff (s.arrive m) = (s.arrive m).setLoader l)
    (hl : l.image = s.loader.image) : exec i s = .next ((s.arrive m).setLoader l) :=
  exec_of_due_settled ht hd he hu ((hs.arrive m).setLoader hl) ho rfl

theorem State.awaitsStatus_of {s : State} {b : Micros} (hst : s.loader.state = .reading) (hb : s.loader.statusWait = some b)
    (h : s.now ≤ b + 10000) : s.awaitsStatus = true := by
  simp [State.awaitsStatus, hst, hb, ms, h]

theorem State.awaitsMarker_of {s : State} (hst : s.loader.state = .reading) (hsp : s.loader.spiSent = [0x03#8, 0x00#8])
    (hl : s.loader.length = none) : s.awaitsMarker = true := by
  simp [State.awaitsMarker, hst, hsp, hl]

theorem statusReady_iff (status : Byte) : statusReady status = true ↔ status.toNat % 2 = 0 := by
  simp [statusReady, bitOf]

/-- Settles O13: both answers change the loader alone. -/
theorem statusAndMarkerAreAnswered : Obligations.StatusAndMarkerAreAnswered := by
  refine ⟨fun m status s b ht hs ho hst hb hle => ?_, fun m length s ht hs ho hst hsp hl h1 h2 => ?_⟩
  · refine ⟨_, exec_eq_setLoader ht hs ho (State.awaitsStatus_of (s := s.arrive m) hst hb hle) rfl rfl ?_, ?_⟩
    · split <;> rfl
    · by_cases hr : statusReady status = true
      · have h2 := (statusReady_iff status).mp hr
        rw [if_pos hr]
        exact ⟨hst, fun _ => ⟨rfl, rfl⟩, fun h => by omega⟩
      · have h2 : ¬status.toNat % 2 = 0 := fun h => hr ((statusReady_iff status).mpr h)
        rw [if_neg hr]
        exact ⟨hst, fun h => absurd h h2, fun _ => ⟨hb, rfl⟩⟩
  · have htake : (s.arrive m).takeMarker 0x5A#8 0x36#8 length =
        (s.arrive m).setLoader { s.loader with length := some length.toNat } := by
      have hlen : ¬(length.toNat < 245 ∨ 251 < length.toNat) := by omega
      simp [State.takeMarker, hlen]
    exact exec_eq_setLoader ht hs ho (State.awaitsMarker_of (s := s.arrive m) hst hsp hl) rfl htake rfl

/-! ### The end of a failed load (R166, R167, R170) -/

@[simp] theorem State.startControl_ctl (s : State) (mode : Mode) (record : Option FaultCode) :
    (s.startControl mode record).ctl.mode = mode ∧ (s.startControl mode record).ctl.standbyReturn = mode ∧
      (s.startControl mode record).ctl.warmupTimer = (if mode = .warmup then some s.now else none) ∧
      (s.startControl mode record).ctl.sprayRate = s.cfg.spray.rate := by
  unfold State.startControl
  dsimp only
  split <;> simp

/-- What a failed load leaves once the event has ended. -/
theorem State.endFailed_spec (s : State) (m : Moment) (code : FaultCode) :
    let t := ((s.arrive m).endFailed code).finish s.link.state
    t.loader.state = .done ∧ t.loader.outcome = .failed ∧ t.loader.image = none ∧ t.loader.clamped = false ∧
      t.loader.station = s.loader.station ∧ t.ctl.mode = .limp ∧ t.ctl.standbyReturn = .limp ∧ t.ctl.sprayRate = 20 ∧
      t.ctl.record .config = some { source := .config, code := code, state := .latched } ∧ t.link.state = .active ∧
      (s.link.state ≠ .active → t.link.pending.isSome = true ∧ t.link.periodTimer = some t.now) ∧ SameChannels s t := by
  have hstate : ((s.arrive m).endFailed code).link.state = .active := rfl
  refine ⟨by simp [State.endFailed, Loader.finish], by simp [State.endFailed, Loader.finish],
    by simp [State.endFailed, Loader.finish], by simp [State.endFailed, Loader.finish],
    by simp [State.endFailed, Loader.finish], by simp [State.endFailed, State.startControl],
    by simp [State.endFailed, State.startControl], ?_, by simp [State.endFailed, State.startControl], by simp [hstate],
    fun h => ?_, ⟨by simp, by simp, by simp, by simp, by simp⟩⟩
  · simp [State.endFailed, State.startControl, State.cfg, Loader.finish, Image.blank]
  · rw [State.finish_link, if_pos ⟨hstate, h⟩]
    simp

/-- Settles O14: each of the four rows is `State.endFailed` with its code. -/
theorem failedLoadsEnterLimp : Obligations.FailedLoadsEnterLimp := by
  refine ⟨fun m s b ht hst hb hle => ?_, fun m b0 b1 length s ht hst hsp hl hne => ?_,
    fun m length s ht hst hsp hl hlen => ?_, fun m fields high low s ht hst hl hcrc => ?_⟩
  · have hd : ((s.arrive m).loader.state == .reading && ranFor (s.arrive m).loader.statusWait (s.arrive m).now (ms 10)) = true := by
      rw [Bool.and_eq_true, beq_iff_eq]
      exact ⟨hst, ranFor_of_le (x := (s.arrive m).loader.statusWait) hb hle⟩
    exact ⟨_, exec_of_due ht hd rfl, s.endFailed_spec m _⟩
  · have htake : (s.arrive m).takeMarker b0 b1 length = (s.arrive m).endFailed .badMarker := by
      rw [State.takeMarker, if_pos (not_and_or.mp hne)]
    exact ⟨_, exec_of_due ht (State.awaitsMarker_of (s := s.arrive m) hst hsp hl) rfl, htake ▸ s.endFailed_spec m _⟩
  · have htake : (s.arrive m).takeMarker 0x5A#8 0x36#8 length = (s.arrive m).endFailed .badLength := by
      rw [State.takeMarker, if_neg (by simp), if_pos hlen]
    exact ⟨_, exec_of_due ht (State.awaitsMarker_of (s := s.arrive m) hst hsp hl) rfl, htake ▸ s.endFailed_spec m _⟩
  · have htake : (s.arrive m).takeBlock fields high low = (s.arrive m).endFailed .badCrc := by
      simp [State.takeBlock, hcrc]
    have hd : (s.arrive m).awaitsBlock fields = true := by simp [State.awaitsBlock, hst, hl]
    exact ⟨_, exec_of_due ht hd rfl, htake ▸ s.endFailed_spec m _⟩

/-! ### The end of a good load (R167, R170, R174) -/

theorem ofWord_eq_iff (high low : Byte) (n : Nat) : n = ofWord high low ↔ high.toNat = n / 256 ∧ low.toNat = n % 256 := by
  have hl : low.toNat < 256 := low.isLt
  unfold ofWord
  omega

theorem State.endGood_ctl (s : State) (fields : List Byte) :
    (s.endGood fields).ctl =
      (({ s with loader := s.loader.finish .good (some (loadImage fields)) (loadClamped fields) } : State).startControl .warmup
        (if loadShort fields then some .schedule else none)).ctl := rfl

theorem State.endGood_peers (s : State) (fields : List Byte) :
    (s.endGood fields).peers = s.peers.map fun p =>
      ({ p with expected := (loadImage fields).general.expected.contains p.station && p.station != s.loader.station } :
        Peer).cleared := rfl

theorem State.endGood_coil (s : State) (fields : List Byte) (c : Coil) :
    (s.endGood fields).out.coil c = (s.out.coil c).begin s.now := by
  cases c <;> rfl

/-- Settles O15: the effect is `State.endGood`, and the end of the event keeps what it left. -/
theorem goodLoadStartsTheStation : Obligations.GoodLoadStartsTheStation := by
  refine ⟨?_, fun m fields high low s ht hst hl hcrc => ?_⟩
  · intro fields high low crc
    rw [← ofWord_eq_iff]
    exact beq_iff_eq
  · have htake : (s.arrive m).takeBlock fields high low = (s.arrive m).endGood fields := by
      simp [State.takeBlock, hcrc]
    have hd : (s.arrive m).awaitsBlock fields = true := by simp [State.awaitsBlock, hst, hl]
    have hstate : ((s.arrive m).endGood fields).link.state = .active := rfl
    refine ⟨_, exec_of_due ht hd rfl, ?_⟩
    rw [htake]
    refine ⟨by simp; rfl, by simp; rfl, by simp; rfl, by simp; rfl, by simp [State.endGood_ctl],
      by simp [State.endGood_ctl], by simp [State.endGood_ctl], by simp [State.endGood_ctl, State.cfg, Loader.finish], fun hshort => ?_, fun hshort => ?_,
      by simp; rfl, by simp; rfl, by simp; rfl, by simp; rfl, by simp; rfl, ?_, by simp [hstate], fun h => ?_, fun c => ?_⟩
    · rw [State.finish_ctl, State.settle_ctl_record, State.endGood_ctl, hshort]
      simp [State.startControl]
    · rw [State.finish_ctl, State.settle_ctl_faults, State.endGood_ctl, hshort]
      simp [State.startControl]
    · simp only [State.finish_peers, State.endGood_peers, List.mem_map]
      rintro _ ⟨p, -, rfl⟩
      exact ⟨rfl, by simp [Peer.cleared]⟩
    · rw [State.finish_link, if_pos ⟨hstate, h⟩]
      rfl
    · rw [State.finish_out, State.settle_out_coil, State.endGood_coil]
      simp [CoilOut.begin]

/-! ### The ranges of a loaded image (R168, R169) -/

theorem clampNat_bounds {lo hi : Nat} (h : lo ≤ hi) (n : Nat) : lo ≤ clampNat lo hi n ∧ clampNat lo hi n ≤ hi := by
  unfold clampNat
  omega

theorem DriveCfg.clamp_inRange (d : DriveCfg) : d.clamp.InRange := by
  constructor <;> simp only [DriveCfg.clamp, clampNat] <;> omega

theorem GroupCfg.clamp_inRange (g : GroupCfg) :
    g.clamp.enabled ≤ 1 ∧ 20 ≤ g.clamp.width ∧ g.clamp.width ≤ 300 ∧ g.clamp.kind ≤ 2 ∧
      (g.clamp.kind = 2 → 1 ≤ g.clamp.station ∧ g.clamp.station ≤ 14 ∧ g.clamp.channel ≤ 1) ∧
      (g.clamp.kind = 1 → g.clamp.channel ≤ 1) := by
  simp only [GroupCfg.clamp, clampNat]
  refine ⟨by omega, by omega, by omega, by omega, fun h => ?_, fun h => ?_⟩
  · rw [if_pos h, if_neg (by omega)]
    omega
  · rw [if_neg (by omega)]
    omega

theorem SprayCfg.clamp_inRange (x : SprayCfg) : x.clamp.InRange := by
  constructor
  case groups =>
    intro g hg
    obtain ⟨g, -, rfl⟩ := List.mem_map.mp hg
    exact g.clamp_inRange
  all_goals simp only [SprayCfg.clamp, clampNat]; omega

/-- The points kept after one of pace `x` ascend from above it, and are points of the list (R169). -/
theorem ascending_spec (x : Nat) (l : List (Nat × Nat)) :
    (x :: (ascending x l).map Prod.fst).Pairwise (· < ·) ∧ ∀ p ∈ ascending x l, p ∈ l := by
  induction l generalizing x with
  | nil => simp [ascending]
  | cons p rest ih =>
    unfold ascending
    split
    · rename_i hlt
      obtain ⟨hpw, hmem⟩ := ih p.1
      refine ⟨List.pairwise_cons.mpr ⟨fun y hy => ?_, hpw⟩, fun q hq => ?_⟩
      · rcases List.mem_cons.mp hy with rfl | hy
        · exact hlt
        · exact hlt.trans ((List.pairwise_cons.mp hpw).1 y hy)
      · rcases List.mem_cons.mp hq with rfl | hq
        · exact List.mem_cons_self ..
        · exact List.mem_cons_of_mem _ (hmem q hq)
    · simp

/-- A kept schedule of points in range starts at pace 0, ascends and is in range (R169). -/
theorem keptPoints_spec {l : List (Nat × Nat)} (h : ∀ p ∈ l, p.1 ≤ 4000 ∧ p.2 ≤ 600) (hne : keptPoints l ≠ []) :
    (keptPoints l).head?.map Prod.fst = some 0 ∧ ((keptPoints l).map Prod.fst).Pairwise (· < ·) ∧
      ∀ p ∈ keptPoints l, p.1 ≤ 4000 ∧ p.2 ≤ 600 := by
  cases l with
  | nil => exact absurd rfl hne
  | cons q rest =>
    obtain ⟨hpw, hmem⟩ := ascending_spec 0 rest
    refine ⟨rfl, hpw, fun p hp => ?_⟩
    rcases List.mem_cons.mp hp with rfl | hp
    · exact ⟨Nat.zero_le _, (h q (List.mem_cons_self ..)).2⟩
    · exact h p (List.mem_cons_of_mem _ (hmem p hp))

theorem BrushCfg.clamp_points (b : BrushCfg) : ∀ p ∈ b.clamp.used, p.1 ≤ 4000 ∧ p.2 ≤ 600 := by
  intro p hp
  obtain ⟨q, -, rfl⟩ := List.mem_map.mp (List.mem_of_mem_take hp)
  exact ⟨Nat.min_le_right .., Nat.min_le_right ..⟩

/-- The schedule check changes the enable flag and the points alone. -/
theorem BrushCfg.checked_eq (b : BrushCfg) :
    b.checked = { b with enable := b.checked.enable, points := b.checked.points } := by
  unfold BrushCfg.checked
  split <;> rfl

theorem BrushCfg.checked_enable_le {b : BrushCfg} (h : b.enable ≤ 1) : b.checked.enable ≤ 1 := by
  unfold BrushCfg.checked
  dsimp only
  split
  · show (if _ then 1 else 0) ≤ 1
    split <;> omega
  · exact h

/-- A channel that stays enabled keeps at least two points, its ascending ones. -/
theorem BrushCfg.checked_enabled {b : BrushCfg} (h : b.checked.enable = 1) :
    b.checked.points = keptPoints b.used ∧ 2 ≤ (keptPoints b.used).length := by
  unfold BrushCfg.checked at h ⊢
  dsimp only at h ⊢
  split
  · rename_i he
    rw [if_pos he] at h
    exact ⟨rfl, by by_contra hlt; simp [hlt] at h⟩
  · rename_i he
    rw [if_neg he] at h
    exact absurd h he

theorem BrushCfg.loaded_inRange (b : BrushCfg) : b.clamp.checked.InRange := by
  have hen : b.clamp.checked.enable ≤ 1 := BrushCfg.checked_enable_le (Nat.min_le_right ..)
  constructor
  case sched =>
    intro h
    obtain ⟨hp, hlen⟩ := BrushCfg.checked_enabled h
    rw [hp]
    exact ⟨hlen, keptPoints_spec b.clamp_points fun hnil => by rw [hnil] at hlen; simp at hlen⟩
  case codes =>
    rw [BrushCfg.checked_eq]
    exact ⟨hen, Nat.min_le_right .., Nat.min_le_right ..⟩
  all_goals rw [BrushCfg.checked_eq]; simp only [BrushCfg.clamp, clampNat]; omega

theorem u12_le (l : List Byte) (k : Nat) : u12 l k ≤ 4095 := by
  unfold u12
  omega

theorem loadImage_coil (l : List Byte) (c : Coil) : ∃ o, (loadImage l).coil c = (rawCoil l o).clamp := by
  cases c <;> exact ⟨_, rfl⟩

/-- Settles O16: every record is clamped, and the schedules are checked after it. -/
theorem loadedImageIsInRange : Obligations.LoadedImageIsInRange := by
  intro fields i
  have hgen : i.general = (rawGeneral fields).clamp := rfl
  rw [hgen]
  refine ⟨(clampNat_bounds (by decide) _).1, (clampNat_bounds (by decide) _).2, fun n hn => ?_, Nat.min_le_right ..,
    (clampNat_bounds (by decide) _).1, (clampNat_bounds (by decide) _).2, Nat.min_le_right .., Nat.min_le_right ..,
    DriveCfg.clamp_inRange _, BrushCfg.loaded_inRange _, BrushCfg.loaded_inRange _, SprayCfg.clamp_inRange _, fun c => ?_⟩
  · simpa using List.of_mem_filter hn
  · obtain ⟨o, ho⟩ := loadImage_coil fields c
    rw [show i.coil c = (rawCoil fields o).clamp from ho]
    exact ⟨(clampNat_bounds (by decide) _).1, (clampNat_bounds (by decide) _).2, u12_le .., u12_le ..⟩

end Sys2Proof.Machine

/-! The STATE frame's encoding read back (11, sections 11.1 and 11.2; R112, R171, R172, R174). -/

namespace Sys2Proof.Machine

/-! ### Bytes and words -/

theorem byte_toNat {n : Nat} (h : n < 256) : (byte n).toNat = n := by
  simp [byte, Nat.mod_eq_of_lt h]

theorem ofWord_byte {n : Nat} (h : n < 65536) : ofWord (byte (n / 256)) (byte (n % 256)) = n := by
  unfold ofWord
  rw [byte_toNat (by omega), byte_toNat (by omega)]
  omega

theorem intOfWord_wordOfInt {v : Int} (hl : -32768 ≤ v) (hu : v < 32768) : intOfWord (wordOfInt v) = v := by
  unfold intOfWord wordOfInt
  split <;> omega

theorem wordOfInt_lt (v : Int) : wordOfInt v < 65536 := by
  unfold wordOfInt
  omega

/-! ### Each part of the payload read back -/

theorem takeWord_optWord {v : Option Nat} (h : ∀ n, v = some n → n < 65536) (rest : List Byte) :
    takeWord v.isSome (optWord v ++ rest) = some (v, rest) := by
  cases v with
  | none => rfl
  | some n =>
    show some (some (ofWord (byte (n / 256)) (byte (n % 256))), rest) = _
    rw [ofWord_byte (h n rfl)]

theorem takeBytes_append (l rest : List Byte) : takeBytes l.length (l ++ rest) = some (l, rest) := by
  simp [takeBytes]

theorem takeByte_toList (o : Option Byte) (rest : List Byte) : takeByte o.isSome (o.toList ++ rest) = some (o, rest) := by
  cases o <;> rfl

theorem decodeBrush_encode {r : BrushReport} (hc : r.channel < 4) (hs : r.state < 16) : decodeBrush r.encode = r := by
  obtain ⟨c, st, o, z⟩ := r
  have hb : c * 64 + st * 4 + flag o * 2 + flag z < 256 := by
    cases o <;> cases z <;> simp only [flag] <;> dsimp only at hc hs <;> simp <;> omega
  unfold decodeBrush BrushReport.encode
  rw [byte_toNat hb]
  simp only [field, bitOf, BrushReport.mk.injEq] at hc hs ⊢
  cases o <;> cases z <;> simp [flag] <;> omega

/-- The four bits of a set of groups, whatever number they are taken from. -/
theorem groupBits_groupsOf (n : Nat) : groupBits (groupsOf n) = n % 16 := by
  have h : groupBits (groupsOf n) =
      flag (bitOf n 0) + flag (bitOf n 1) * 2 + flag (bitOf n 2) * 4 + flag (bitOf n 3) * 8 := by
    simp [groupBits, groupsOf]
  have hflag (k : Nat) : flag (bitOf n k) = n / 2 ^ k % 2 := by
    unfold flag bitOf
    split <;> simp_all
  rw [h, hflag, hflag, hflag, hflag]
  omega

theorem groupsOf_mod (n : Nat) : groupsOf (n % 16) = groupsOf n := by
  unfold groupsOf
  refine List.filter_congr fun k hk => ?_
  simp only [List.mem_cons, List.not_mem_nil, or_false] at hk
  unfold bitOf
  obtain rfl | rfl | rfl | rfl := hk <;> congr 1 <;> omega

theorem decodeSpray_encode {r : SprayReport} (hs : r.state < 8) (ho : ∃ n, r.opened = groupsOf n) : decodeSpray r.encode = r := by
  obtain ⟨st, tl, op⟩ := r
  obtain ⟨n, rfl⟩ : ∃ n, op = groupsOf n := ho
  dsimp only at hs
  unfold decodeSpray SprayReport.encode
  dsimp only
  rw [groupBits_groupsOf]
  have hb : st * 32 + flag tl * 16 + n % 16 < 256 := by
    cases tl <;> simp only [flag] <;> simp <;> omega
  rw [byte_toNat hb, SprayReport.mk.injEq]
  refine ⟨?_, ?_, ?_⟩
  · cases tl <;> simp [field, flag] <;> omega
  · cases tl <;> simp [bitOf, flag] <;> omega
  · rw [← groupsOf_mod n]
    congr 1
    cases tl <;> simp [field, flag] <;> omega

theorem decodeFaults_encode {l : List FaultEntry} (h : ∀ e ∈ l, e.source < 8 ∧ e.state < 4 ∧ e.code < 256) :
    decodeFaults (l.flatMap FaultEntry.encode) = l := by
  induction l with
  | nil => rfl
  | cons e l ih =>
    obtain ⟨hsrc, hst, hcode⟩ := h e (List.mem_cons_self ..)
    show FaultEntry.mk _ _ _ :: decodeFaults (l.flatMap FaultEntry.encode) = _
    rw [ih fun e he => h e (List.mem_cons_of_mem _ he), byte_toNat (by omega), byte_toNat hcode]
    congr 1
    obtain ⟨src, st, code⟩ := e
    dsimp only at hsrc hst
    simp only [field, FaultEntry.mk.injEq, and_true]
    omega

/-- The flags of the second byte. -/
theorem claimByte_bits (a b c d e : Bool) :
    let x := byte (flag a * 128 + flag b * 64 + flag c * 32 + flag d * 16 + flag e * 8)
    bitOf x.toNat 7 = a ∧ bitOf x.toNat 6 = b ∧ bitOf x.toNat 5 = c ∧ bitOf x.toNat 4 = d ∧ bitOf x.toNat 3 = e := by
  revert a b c d e
  decide

/-- The presence flags and the number of brush reports of the fifth byte. -/
theorem presenceByte_bits (a b c d : Bool) {n : Nat} (h : n ≤ 2) :
    let x := byte (flag a * 128 + flag b * 64 + flag c * 32 + flag d * 16 + n)
    bitOf x.toNat 7 = a ∧ bitOf x.toNat 6 = b ∧ bitOf x.toNat 5 = c ∧ bitOf x.toNat 4 = d ∧ field x.toNat 0 2 = n := by
  have hn : n = 0 ∨ n = 1 ∨ n = 2 := by omega
  revert a b c d
  obtain rfl | rfl | rfl := hn <;> decide

/-! ### The payload, the frame -/

theorem flatMap_encode_length (l : List FaultEntry) : (l.flatMap FaultEntry.encode).length = 2 * l.length := by
  induction l with
  | nil => rfl
  | cons e l ih => simp [FaultEntry.encode, ih]; omega

theorem optWord_length_le (v : Option Nat) : (optWord v).length ≤ 2 := by
  cases v <;> simp [optWord, word]

theorem StateFrame.Fits.length {f : StateFrame} (h : f.Fits) : 6 ≤ f.encode.length ∧ f.encode.length ≤ 29 := by
  have hp := optWord_length_le (f.pace.map wordOfInt)
  have hb := optWord_length_le f.budget
  have hd := optWord_length_le f.demand
  have hs : (f.spray.map SprayReport.encode).toList.length ≤ 1 := by cases f.spray <;> simp
  have hr := h.brushes.1
  have hf := h.faults.1
  simp only [StateFrame.encode, StateFrame.head, List.length_append, List.length_cons, List.length_nil, List.length_map,
    flatMap_encode_length]
  omega

/-- The payload of a frame that fits is decoded to the frame (R172). -/
theorem StateFrame.Fits.decode_encode {f : StateFrame} (h : f.Fits) : decodeState f.station f.encode = some f := by
  have hpace : (f.pace.map wordOfInt).map intOfWord = f.pace := by
    cases hv : f.pace with
    | none => rfl
    | some v =>
      obtain ⟨hl, hu⟩ := h.pace v hv
      simp [intOfWord_wordOfInt hl hu]
  have hbrush : (f.brushes.map BrushReport.encode).map decodeBrush = f.brushes := by
    rw [List.map_map]
    refine (List.map_congr_left fun r hr => ?_).trans (List.map_id _)
    exact decodeBrush_encode (h.brushes.2 r hr).1 (h.brushes.2 r hr).2
  have hspray : (f.spray.map SprayReport.encode).map decodeSpray = f.spray := by
    cases hv : f.spray with
    | none => rfl
    | some r => simp [decodeSpray_encode (h.spray r hv).1 (h.spray r hv).2]
  have hmode := h.mode
  have hperiod := h.period
  have hn := h.faults.1
  have hcount : field (byte f.faults.length).toNat 0 4 = f.faults.length := by
    rw [byte_toNat (by omega)]
    simp only [field]
    omega
  have hb0 : (byte (f.mode * 16 + f.period)).toNat = f.mode * 16 + f.period := byte_toNat (by omega)
  obtain ⟨c7, c6, c5, c4, c3⟩ := claimByte_bits f.claim f.overrun f.clamped f.rationed f.limp
  obtain ⟨p7, p6, p5, p4, p0⟩ :=
    presenceByte_bits f.pace.isSome f.budget.isSome f.demand.isSome f.spray.isSome h.brushes.1
  have hw : takeWord f.pace.isSome = takeWord (f.pace.map wordOfInt).isSome := by simp
  have hs : takeByte f.spray.isSome = takeByte (f.spray.map SprayReport.encode).isSome := by simp
  have hl : f.brushes.length = (f.brushes.map BrushReport.encode).length := by simp
  have hfl : 2 * f.faults.length = (f.faults.flatMap FaultEntry.encode).length := (flatMap_encode_length _).symm
  have hrun : takeBytes (2 * f.faults.length) (f.faults.flatMap FaultEntry.encode) =
      some (f.faults.flatMap FaultEntry.encode, []) := by
    rw [hfl]
    simpa using takeBytes_append (f.faults.flatMap FaultEntry.encode) []
  unfold StateFrame.encode StateFrame.head
  simp only [List.append_assoc, List.cons_append, List.nil_append, decodeState, p7, p6, p5, p4, p0, hw, hs]
  rw [takeWord_optWord (fun n hn => ?_)]
  · simp only [Option.bind_some]
    rw [takeWord_optWord h.budget]
    simp only [Option.bind_some]
    rw [takeWord_optWord h.demand]
    simp only [Option.bind_some]
    rw [hl, takeBytes_append]
    simp only [Option.bind_some]
    rw [takeByte_toList]
    simp only [Option.bind_some, takeByte, if_true, Option.map_some, Option.getD_some, hcount, hrun, List.isEmpty_nil,
      hpace, hbrush, hspray, decodeFaults_encode h.faults.2, c7, c6, c5, c4, c3, ofWord_byte h.cap, hb0]
    have e1 : field (f.mode * 16 + f.period) 4 4 = f.mode := by simp only [field]; omega
    have e2 : field (f.mode * 16 + f.period) 0 3 = f.period := by simp only [field]; omega
    rw [e1, e2]
  · obtain ⟨v, -, rfl⟩ := Option.map_eq_some_iff.mp hn
    exact wordOfInt_lt v

/-- The CRC of a frame is computed over bits that do not contain it. -/
theorem crcMatches_onBus (f : StateFrame) : crcMatches f.onBus = true := by
  simp [crcMatches, StateFrame.onBus, coveredBits]

/-- Settles O10: the length, the decoded payload, the CRC and the end field pass the checks in turn. -/
theorem stateFrameReadsBackAsSent : Obligations.StateFrameReadsBackAsSent := by
  intro f h
  obtain ⟨hmin, hmax⟩ := h.length
  have hlen : 6 ≤ f.onBus.payload.length ∧ f.onBus.payload.length ≤ 29 ∧ f.onBus.length.toNat = f.onBus.payload.length :=
    ⟨hmin, hmax, byte_toNat (by omega)⟩
  have hstation : f.onBus.station.toNat = f.station := by
    show (BitVec.ofNat 4 f.station).toNat = f.station
    simp [Nat.mod_eq_of_lt h.station]
  unfold frameFate
  rw [if_neg (by show ¬(1#2 = 0#2); decide), if_pos (by rfl), if_pos hlen, hstation,
    show f.onBus.payload = f.encode from rfl, h.decode_encode]
  simp [frameTail, crcMatches_onBus]
  rfl

end Sys2Proof.Machine

/-! What the rows of a channel and of the link leave alone (01, section 1.11; 02, section 2.1; 04, section 4.7; 06). -/

namespace Sys2Proof.Machine

/-! ### Rows and their effects -/

/-- With nothing takeable before it, an event lets time pass, or takes its effect where its condition holds. -/
theorem State.event_cases {s : State} {m : Moment} {due : State → Bool} {eff : State → State} (ht : s.takeable = false) :
    s.event m due eff = s.arrive m ∨
      (due (s.arrive m) = true ∧ s.event m due eff = (eff (s.arrive m)).finish s.link.state) := by
  cases hd : due (s.arrive m)
  · exact .inl (by rw [State.event_not_due (by rw [State.takeDue_of_not_takeable ht]; exact hd),
      State.takeDue_of_not_takeable ht])
  · exact .inr ⟨rfl, State.event_due_of_not_takeable ht hd⟩

theorem exec_driveRow {i : Instr} {s t : State} (ht : s.takeable = false) (hi : isDriveRow i = true) (he : exec i s = .next t) :
    t = s.arrive (moment i) ∨ t = (s.arrive (moment i)).driveStep.finish s.link.state := by
  cases i <;> cases hi <;> cases he <;> exact (State.event_cases ht).imp_right And.right

theorem exec_brushRow {i : Instr} {s t : State} (ht : s.takeable = false) (hi : isBrushRow i = true) (he : exec i s = .next t) :
    t = s.arrive (moment i) ∨ ∃ first, t = ((s.arrive (moment i)).brushStep first).finish s.link.state := by
  cases i <;> cases hi <;> cases he <;> exact (State.event_cases ht).imp_right fun h => ⟨_, h.2⟩

theorem exec_sprayRow {i : Instr} {s t : State} (ht : s.takeable = false) (hi : isSprayRow i = true) (he : exec i s = .next t) :
    t = s.arrive (moment i) ∨ t = (s.arrive (moment i)).sprayStep.finish s.link.state := by
  cases i <;> cases hi <;> cases he <;> exact (State.event_cases ht).imp_right And.right

/-! ### What the end of an event makes of a frame -/

theorem State.settle_ctl_eq (s : State) :
    s.settle.ctl =
      { s.ctl with
        contrib := s.contributions
        ownCap := if (s.ctl.record .supply).isSome then 0 else least (min s.modeCap s.ctl.limit) s.contributions.values
        silentCount := s.silentExpected } := rfl

/-- The mode, the supply condition and what forcing stops are as they were: so is forcing at the end of the event. -/
theorem SameForcing.of_effect {s u : State} (hs : s.Settled) (ho : s.out.Wf) (hm : u.ctl.mode = s.ctl.mode)
    (hsup : u.out.supply = s.out.supply)
    (hc : ∀ c, (u.out.coil c).running = (s.out.coil c).running ∧ (u.out.coil c).openTimer = (s.out.coil c).openTimer) :
    SameForcing s.out u.settle.out := by
  have hf : u.forcingOn = s.out.forcing := by
    rw [hs.forcing]
    simp [State.forcingOn, State.supplyLow, hm, hsup]
  refine ⟨hf, fun c => ?_⟩
  rw [State.settle_out_coil, hf]
  unfold CoilOut.forced
  split
  · obtain ⟨hr, ho⟩ := ho.forced ‹_› c
    exact ⟨hr.symm, ho.symm⟩
  · exact hc c

/-- No channel touches the peer table. -/
theorem State.Settled.silent_eq {s u : State} (hs : s.Settled) (hp : u.peers = s.peers) (ho : u.tableOwn = s.tableOwn) :
    u.silentExpected = s.ctl.silentCount := by
  rw [hs.silent, State.silentExpected_eq, State.silentExpected_eq, hp, ho]

/-! ### The drive rows -/

/-- Only the record of one source may differ. -/
def Controller.SameButRecord (src : Source) (x y : Controller) : Prop :=
  (∃ l, y = { x with faults := l }) ∧ ∀ other, other ≠ src → y.record other = x.record other

theorem Controller.SameButRecord.refl (src : Source) (x : Controller) : Controller.SameButRecord src x x :=
  ⟨⟨x.faults, rfl⟩, fun _ _ => rfl⟩

theorem Controller.SameButRecord.trans {src : Source} {x y z : Controller} (h : Controller.SameButRecord src x y)
    (h' : Controller.SameButRecord src y z) : Controller.SameButRecord src x z := by
  obtain ⟨⟨l, rfl⟩, hrec⟩ := h
  obtain ⟨⟨l', rfl⟩, hrec'⟩ := h'
  exact ⟨⟨l', rfl⟩, fun o ho => (hrec' o ho).trans (hrec o ho)⟩

theorem Controller.sameButRecord_putRecord (x : Controller) (src : Source) (code : FaultCode) (st : RecordState) :
    Controller.SameButRecord src x (x.putRecord src code st) := by
  refine ⟨?_, fun o ho => by rw [Controller.record_putRecord, if_neg ho]⟩
  unfold Controller.putRecord
  dsimp only
  split <;> exact ⟨_, rfl⟩

theorem Controller.sameButRecord_dropRecord (x : Controller) (src : Source) :
    Controller.SameButRecord src x (x.dropRecord src) :=
  ⟨⟨_, rfl⟩, fun o ho => by rw [Controller.record_dropRecord, if_neg ho]⟩

theorem State.postPedal_ctl (s : State) : Controller.SameButRecord .drive s.ctl s.postPedal.ctl := by
  unfold State.postPedal
  split
  · exact .refl _ _
  · exact Controller.sameButRecord_putRecord _ _ _ _

theorem State.withdrawPedal_ctl (s : State) : Controller.SameButRecord .drive s.ctl s.withdrawPedal.ctl := by
  unfold State.withdrawPedal
  split
  · exact Controller.sameButRecord_dropRecord _ _
  · exact .refl _ _

theorem State.pedalStage_ctl (s : State) : Controller.SameButRecord .drive s.ctl s.pedalStage.ctl := by
  unfold State.pedalStage
  dsimp only
  split
  · exact State.postPedal_ctl (s.setDrive _)
  · split
    · exact State.withdrawPedal_ctl (s.setDrive _)
    · exact .refl _ _

theorem State.blindStage_ctl (s : State) : Controller.SameButRecord .drive s.ctl s.blindStage.ctl := by
  unfold State.blindStage
  split
  · exact Controller.sameButRecord_putRecord _ _ _ _
  · exact .refl _ _

theorem State.driveStep_ctl (s : State) : Controller.SameButRecord .drive s.ctl s.driveStep.ctl := by
  unfold State.driveStep
  dsimp only
  split
  · simpa using s.pedalStage_ctl.trans (State.blindStage_ctl _)
  · simpa using s.pedalStage_ctl

theorem State.coilStage_eq (s : State) : ∃ d f r, s.coilStage = (s.setDrive d).writeDriveCoils f r := ⟨_, _, _, rfl⟩

/-- What writing the drive coils and PARK_RELEASE makes of an output stage. -/
theorem State.writeDriveCoils_setPark_out (s : State) (f r : Nat) (p : Bool) :
    ((s.writeDriveCoils f r).setPark p).out =
      { s.out with
        driveF := { s.out.driveF with shadow := f }, driveR := { s.out.driveR with shadow := r }, parkRelease := p } := rfl

theorem State.driveStep_out (s : State) :
    ∃ f r p, s.driveStep.out =
      { s.out with
        driveF := { s.out.driveF with shadow := f }, driveR := { s.out.driveR with shadow := r }, parkRelease := p } := by
  unfold State.driveStep
  dsimp only
  split
  · obtain ⟨d, f, r, he⟩ := State.coilStage_eq
      (s.pedalStage.blindStage.moveStage.rampStage (s.pedalStage.blindStage.driveMove == .engage))
    generalize hp : State.parkReleased _ = p
    rw [he, State.writeDriveCoils_setPark_out]
    exact ⟨f, r, p, by simp only [State.setDrive_out, State.rampStage_keeps, State.moveStage_keeps, State.blindStage_keeps,
      State.pedalStage_keeps]⟩
  · rw [State.writeDriveCoils_setPark_out]
    exact ⟨0, 0, false, by simp⟩

theorem State.pedalStage_state (s : State) : s.pedalStage.drive.state = s.drive.state := by
  unfold State.pedalStage
  dsimp only
  split
  · simp
  · split
    · simp
    · rfl

theorem State.blindStage_state (s : State) : s.blindStage.drive.state = s.drive.state := by
  unfold State.blindStage
  split
  · simp
  · rfl

/-- The direction and state rules move among STANDSTILL, DRIVING and TURNING (R11 to R14). -/
theorem State.moveStage_moving {s : State} (h : s.drive.state.moving = true) : s.moveStage.drive.state.moving = true := by
  unfold State.moveStage
  split
  · show (if _ then DriveState.driving else DriveState.standstill).moving = true
    split <;> rfl
  · rfl
  · rfl
  · rfl
  · rfl
  · split
    case h_1 hs => simpa [hs] using h
    case h_2 hs => simpa [hs] using h
    all_goals exact h

theorem State.rampStage_state (s : State) (e : Bool) : (State.rampStage e s).drive.state = s.drive.state := by
  unfold State.rampStage
  dsimp only
  split <;> rfl

theorem State.coilStage_state (s : State) : s.coilStage.drive.state = s.drive.state := rfl

/-- A drive step leaves a drive that stands as it is, and a moving one moving. -/
theorem State.driveStep_state (s : State) :
    (s.drive.state.moving = true → s.driveStep.drive.state.moving = true) ∧
      (s.drive.state.moving = false → s.driveStep.drive.state = s.drive.state) := by
  have hp := s.pedalStage_state
  constructor <;> intro h <;> unfold State.driveStep <;> dsimp only
  · rw [hp, if_pos h, State.setPark_drive, State.coilStage_state, State.rampStage_state]
    refine State.moveStage_moving ?_
    rw [State.blindStage_state, hp, h]
  · rw [if_neg (by rw [hp, h]; decide)]
    exact hp

theorem State.driveStep_latched (s : State) : (s.driveStep.drive.state == .latched) = (s.drive.state == .latched) := by
  obtain ⟨hm, hn⟩ := s.driveStep_state
  cases h : s.drive.state.moving
  · rw [hn h]
  · have ha := hm h
    revert ha h
    cases s.driveStep.drive.state <;> cases s.drive.state <;> simp [DriveState.moving]

/-- The figures that follow read of the drive only whether it is LATCHED, and of its record nothing but the lamp. -/
theorem State.settle_ctl_of_drive {s u : State} (hs : s.Settled) (hctl : Controller.SameButRecord .drive s.ctl u.ctl)
    (hlatched : (u.drive.state == .latched) = (s.drive.state == .latched))
    (hsame : u.brush0 = s.brush0 ∧ u.brush1 = s.brush1 ∧ u.spray = s.spray ∧ u.loader = s.loader ∧ u.peers = s.peers ∧
      u.tableOwn = s.tableOwn) : Controller.SameButRecord .drive s.ctl u.settle.ctl := by
  obtain ⟨⟨l, hl⟩, hrec⟩ := hctl
  obtain ⟨hb0, hb1, hspray, hloader, hpeers, hown⟩ := hsame
  have hcfg : u.cfg = s.cfg := by simp [State.cfg, hloader]
  have hdust : u.dustStands = s.dustStands := by simp [State.dustStands, hspray, hcfg]
  have hc : u.contributions = s.ctl.contrib := by
    rw [hs.contrib]
    unfold State.contributions
    rw [hlatched, hb0, hb1, hdust, hcfg, hl]
  have hcap : (if (u.ctl.record .supply).isSome then 0
      else least (min u.modeCap u.ctl.limit) s.ctl.contrib.values) = s.ctl.ownCap := by
    rw [hs.cap, hrec .supply (by decide)]
    unfold State.composeCap State.modeCap
    rw [hcfg, hl]
  refine ⟨⟨l, ?_⟩, fun src h => hrec src h⟩
  rw [State.settle_ctl_eq, hc, hcap, hs.silent_eq hpeers hown, hl]

/-- Settles O17: a drive step edits the drive, its record, its coils' duties and PARK_RELEASE. -/
theorem driveRowsFrame : Obligations.DriveRowsFrame := by
  intro i s t hs ho ht hi he
  obtain rfl | rfl := exec_driveRow ht hi he
  · exact ⟨⟨rfl, rfl, rfl, rfl, rfl, rfl⟩, rfl, rfl, rfl, rfl, rfl, fun _ _ => rfl, rfl, rfl, ⟨rfl, fun _ => ⟨rfl, rfl⟩⟩⟩
  · have hsa := hs.arrive (moment i)
    obtain ⟨⟨l, hl⟩, hrec⟩ := State.settle_ctl_of_drive hsa (State.driveStep_ctl _) (State.driveStep_latched _) (by simp)
    obtain ⟨f, r, p, hout⟩ := (s.arrive (moment i)).driveStep_out
    have hmode : (s.arrive (moment i)).driveStep.ctl.mode = s.ctl.mode := by
      obtain ⟨⟨l', hl'⟩, -⟩ := (s.arrive (moment i)).driveStep_ctl
      rw [hl']
      rfl
    refine ⟨⟨by simp, by simp, by simp, ?_, by simp, by simp⟩, by simp, by simp, by simp, by simp, ?_, ?_, ?_, ?_, ?_⟩
    · rw [State.finish_link_of_state (by simp)]
      simp
    · rw [State.finish_ctl, hl]; rfl
    · rw [State.finish_ctl]; exact hrec
    · rw [State.finish_out, State.settle_out_butDrive, hout]; rfl
    · rw [State.finish_out, State.settle_out_boost, hout]; rfl
    · rw [State.finish_out]
      refine SameForcing.of_effect (s := s.arrive (moment i)) hsa ho hmode (by rw [hout]) fun c => ?_
      rw [hout]
      cases c <;> exact ⟨rfl, rfl⟩

/-! ### What a posting channel edits of the mode controller -/

/-- Only the record and the count of one counted source may differ. -/
def Controller.SameButCounted (k : Counted) (x y : Controller) : Prop :=
  (∃ v l, y = { x.setRecovery k v with faults := l }) ∧ ∀ src, src ≠ sourceOf k → y.record src = x.record src

theorem Controller.SameButCounted.refl (k : Counted) (x : Controller) : Controller.SameButCounted k x x :=
  ⟨⟨x.recovery k, x.faults, by cases k <;> rfl⟩, fun _ _ => rfl⟩

theorem Controller.SameButCounted.trans {k : Counted} {x y z : Controller} (h : Controller.SameButCounted k x y)
    (h' : Controller.SameButCounted k y z) : Controller.SameButCounted k x z := by
  obtain ⟨⟨v, l, rfl⟩, hrec⟩ := h
  obtain ⟨⟨v', l', rfl⟩, hrec'⟩ := h'
  exact ⟨⟨v', l', by cases k <;> rfl⟩, fun o ho => (hrec' o ho).trans (hrec o ho)⟩

theorem Controller.SameButRecord.counted {k : Counted} {x y : Controller} (h : Controller.SameButRecord (sourceOf k) x y) :
    Controller.SameButCounted k x y := by
  obtain ⟨⟨l, rfl⟩, hrec⟩ := h
  exact ⟨⟨x.recovery k, l, by cases k <;> rfl⟩, hrec⟩

theorem Controller.sameButRecord_makeRecovering (x : Controller) (src : Source) :
    Controller.SameButRecord src x (x.makeRecovering src) := by
  refine ⟨⟨_, rfl⟩, fun o ho => ?_⟩
  rw [Controller.record_makeRecovering]
  cases x.record o <;> simp [ho]

theorem Controller.sameButRecord_removeRecovering (x : Controller) (src : Source) :
    Controller.SameButRecord src x (x.removeRecovering src) :=
  ⟨⟨_, rfl⟩, fun _ ho => Controller.record_removeRecovering_of_ne x ho⟩

theorem Controller.sameButCounted_post (x : Controller) (now : Micros) (k : Counted) (code : FaultCode) :
    Controller.SameButCounted k x (x.post now k code).1 := by
  obtain ⟨st, n, he, -⟩ := x.post_spec now k code
  rw [he]
  have hset : Controller.SameButCounted k x (x.setRecovery k { count := n, window := some now }) :=
    ⟨⟨{ count := n, window := some now }, x.faults, by cases k <;> rfl⟩, fun o _ => Controller.record_setRecovery ..⟩
  exact hset.trans (Controller.sameButRecord_putRecord _ _ _ _).counted

/-! ### The brush rows -/

theorem State.setBrush_setCtl (s : State) (c : Chan) (b : Brush) (x : Controller) :
    (s.setBrush c b).setCtl x = (s.setCtl x).setBrush c b := by
  cases c <;> rfl

/-- An edit of one channel, with its record and count. -/
def State.EditsBrush (c : Chan) (s t : State) : Prop :=
  ∃ x b, t = (s.setCtl x).setBrush c b ∧ Controller.SameButCounted (countedOf c) s.ctl x

theorem State.editsBrush_setBrush (s : State) (c : Chan) (b : Brush) : s.EditsBrush c (s.setBrush c b) :=
  ⟨s.ctl, b, rfl, .refl _ _⟩

theorem State.editsBrush_setBrushAndRecord {s : State} {x : Controller} (c : Chan) (b : Brush)
    (hx : Controller.SameButCounted (countedOf c) s.ctl x) : s.EditsBrush c ((s.setCtl x).setBrushAndRecord c b) := by
  unfold State.setBrushAndRecord
  dsimp only
  split
  · rw [State.setBrush_setCtl, State.setBrush_ctl]
    exact ⟨_, b, rfl, hx.trans (Controller.sameButRecord_removeRecovering _ _).counted⟩
  · exact ⟨x, b, rfl, hx⟩

theorem State.editsBrush_setBrushAndRecord_self (s : State) (c : Chan) (b : Brush) :
    s.EditsBrush c (s.setBrushAndRecord c b) :=
  State.editsBrush_setBrushAndRecord (x := s.ctl) c b (.refl _ _)

theorem State.editsBrush_brushFault (s : State) (c : Chan) (code : FaultCode) : s.EditsBrush c (s.brushFault c code) :=
  ⟨_, _, rfl, Controller.sameButCounted_post _ _ _ _⟩

/-- Whatever a step meets, it edits the channel alone (R29 to R48). -/
theorem State.editsBrush_applyBrush (s : State) (c : Chan) (cause : BrushCause) : s.EditsBrush c (s.applyBrush c cause) := by
  have hrecovering := (Controller.sameButRecord_makeRecovering s.ctl (sourceOf (countedOf c))).counted
  cases cause
  case recoveryEnd =>
    unfold State.applyBrush
    dsimp only
    split
    · exact ⟨_, _, rfl, hrecovering⟩
    · exact State.editsBrush_setBrushAndRecord c _ hrecovering
  case none | called | resumed | contact | lost | overrunOnset | overrunClear => exact State.editsBrush_setBrush s c _
  case waitingReleased =>
    exact State.editsBrush_setBrushAndRecord_self s c
      { ((s.brush c).tick (s.brushIn c)).stopTimers with state := .stowed, starved := false }
  case released | starved | spinDownEnd | armUp =>
    exact State.editsBrush_setBrushAndRecord_self s c _
  all_goals exact State.editsBrush_brushFault s c _

/-- The contribution table without the places of the arms and the ration cap's. -/
def Contributions.butArms (x : Contributions) : Contributions :=
  { x with
    overrun0 := none, overrun1 := none, transport0 := none, transport1 := none, afterFault0 := none, afterFault1 := none,
    ration := none }

/-- The mode controller without what the brush channels and the ration unit post. -/
def Controller.butBrush (x : Controller) : Controller :=
  { x with faults := [], contrib := x.contrib.butArms, ownCap := 0, brush0Count := .zero, brush1Count := .zero }

/-- What a brush step leaves alone before the figures that follow are set. -/
structure State.BrushFrame (s t : State) : Prop where
  ctl : t.ctl.butBrush = s.ctl.butBrush
  records : ∀ src, src ≠ .brush0 → src ≠ .brush1 → t.ctl.record src = s.ctl.record src
  drive : ({ t.drive with boost := false, boostTimer := none } : Drive) = { s.drive with boost := false, boostTimer := none }
  out : t.out.butArms = s.out.butArms
  supply : t.out.supply = s.out.supply
  coils : ∀ c, (t.out.coil c).running = (s.out.coil c).running ∧ (t.out.coil c).openTimer = (s.out.coil c).openTimer
  disabled : ∀ c, (s.brush c).state = .disabled →
    t.brush c = s.brush c ∧ t.ctl.contrib.transportOf c = s.ctl.contrib.transportOf c ∧
      t.ctl.contrib.afterFaultOf c = s.ctl.contrib.afterFaultOf c

theorem State.BrushFrame.refl (s : State) : s.BrushFrame s :=
  ⟨rfl, fun _ _ _ => rfl, rfl, rfl, rfl, fun _ => ⟨rfl, rfl⟩, fun _ _ => ⟨rfl, rfl, rfl⟩⟩

theorem State.BrushFrame.trans {s t u : State} (h : s.BrushFrame t) (h' : t.BrushFrame u) : s.BrushFrame u where
  ctl := h'.ctl.trans h.ctl
  records src h0 h1 := (h'.records src h0 h1).trans (h.records src h0 h1)
  drive := h'.drive.trans h.drive
  out := h'.out.trans h.out
  supply := h'.supply.trans h.supply
  coils c := ⟨(h'.coils c).1.trans (h.coils c).1, (h'.coils c).2.trans (h.coils c).2⟩
  disabled c hc := by
    obtain ⟨hb, ht, ha⟩ := h.disabled c hc
    obtain ⟨hb', ht', ha'⟩ := h'.disabled c (hb ▸ hc)
    exact ⟨hb'.trans hb, ht'.trans ht, ha'.trans ha⟩

/-- An edit of a channel that is not DISABLED. -/
theorem State.EditsBrush.frame {c : Chan} {s t : State} (h : s.EditsBrush c t) (hc : (s.brush c).state ≠ .disabled) :
    s.BrushFrame t := by
  obtain ⟨x, b, rfl, ⟨⟨v, l, rfl⟩, hrec⟩⟩ := h
  constructor
  case ctl => cases c <;> rfl
  case records =>
    intro src h0 h1
    rw [State.setBrush_ctl]
    exact hrec src (by cases c <;> assumption)
  case drive => rw [State.setBrush_drive]; rfl
  case out => cases c <;> rfl
  case supply => cases c <;> rfl
  case coils => intro k; cases c <;> cases k <;> exact ⟨rfl, rfl⟩
  case disabled =>
    intro d hd
    have hne : d ≠ c := fun e => hc (e ▸ hd)
    rw [State.setBrush_brush_ne _ _ hne, State.setBrush_ctl]
    cases c <;> cases d <;> exact ⟨rfl, rfl, rfl⟩

/-- Such an edit, and the channel's cap contributions posted after it (R52). -/
theorem State.EditsBrush.frame_armContributions {c : Chan} {s t : State} (h : s.EditsBrush c t)
    (hc : (s.brush c).state ≠ .disabled) : s.BrushFrame (t.armContributions c) := by
  have hf := h.frame hc
  have hne {d : Chan} (hd : (s.brush d).state = .disabled) : d ≠ c := fun e => hc (e ▸ hd)
  constructor
  case disabled =>
    intro d hd
    obtain ⟨hb, ht, ha⟩ := hf.disabled d hd
    cases c <;> cases d <;> first | exact absurd rfl (hne hd) | exact ⟨hb, ht, ha⟩
  case records => intro src h0 h1; cases c <;> exact hf.records src h0 h1
  case coils => intro k; cases c <;> exact hf.coils k
  case ctl => cases c <;> exact hf.ctl
  case drive => cases c <;> exact hf.drive
  case out => cases c <;> exact hf.out
  case supply => cases c <;> exact hf.supply

theorem State.brushFrame_brushStage1 (s : State) (c : Chan) : s.BrushFrame (s.brushStage1 c) := by
  unfold State.brushStage1
  split
  · rename_i he
    exact (s.editsBrush_applyBrush c _).frame_armContributions (by simpa [State.brushEnabled] using he)
  · exact .refl s

theorem State.brushFrame_rationStep (s : State) : s.BrushFrame s.rationStep := by
  unfold State.rationStep
  dsimp only
  split
  · constructor
    case disabled => intro d _; cases d <;> exact ⟨rfl, rfl, rfl⟩
    case records => intro src _ _; rfl
    case coils => intro k; exact ⟨rfl, rfl⟩
    case drive =>
      simp only [State.syncBoost, State.setOut_drive, State.setDrive_drive]
      unfold Drive.evalBoost
      split
      · split <;> rfl
      · split <;> rfl
    all_goals rfl
  · constructor
    case disabled => intro d _; cases d <;> exact ⟨rfl, rfl, rfl⟩
    case records => intro src _ _; rfl
    case coils => intro k; exact ⟨rfl, rfl⟩
    all_goals rfl

theorem State.brushFrame_brushStage3 (s : State) (c : Chan) : s.BrushFrame (s.brushStage3 c) := by
  unfold State.brushStage3
  dsimp only
  split
  · rename_i hw
    exact (State.editsBrush_setBrush s c _).frame fun hd => by rw [hd] at hw; cases hw
  · split
    · exact .refl s
    · rename_i hd
      exact (State.editsBrush_setBrush s c _).frame hd

theorem State.brushFrame_brushStep (s : State) (first : Chan) : s.BrushFrame (s.brushStep first) :=
  (s.brushFrame_brushStage1 first).trans <| (State.brushFrame_brushStage1 _ _).trans <|
    (State.brushFrame_rationStep _).trans <| (State.brushFrame_brushStage3 _ _).trans (State.brushFrame_brushStage3 _ _)

theorem Contributions.overrunOf_contributions (s : State) (c : Chan) :
    s.contributions.overrunOf c = if (s.brush c).overrun then some (s.brush c).overrunCap else none := by
  cases c <;> rfl

theorem Contributions.transportOf_contributions (s : State) (c : Chan) :
    s.contributions.transportOf c = s.ctl.contrib.transportOf c := by
  cases c <;> rfl

theorem Contributions.afterFaultOf_contributions (s : State) (c : Chan) :
    s.contributions.afterFaultOf c = s.ctl.contrib.afterFaultOf c := by
  cases c <;> rfl

theorem State.finish_brush (b : LinkState) (s : State) (c : Chan) : (s.finish b).brush c = s.brush c := by
  cases c <;> simp [State.brush]

/-- Settles O23: a brush step edits the two channels, the ration unit, BOOST and what they post. -/
theorem brushRowsFrame : Obligations.BrushRowsFrame := by
  intro i s t hs ho ht hi he
  obtain rfl | ⟨first, rfl⟩ := exec_brushRow ht hi he
  · refine ⟨⟨rfl, rfl, rfl, rfl, rfl, rfl⟩, rfl, rfl, rfl, rfl, rfl, fun _ _ _ => rfl, fun c _ => ?_, rfl,
      ⟨rfl, fun _ => ⟨rfl, rfl⟩⟩⟩
    cases c <;> exact ⟨rfl, rfl, rfl, rfl⟩
  · have hsa := hs.arrive (moment i)
    have hf := (s.arrive (moment i)).brushFrame_brushStep first
    have hsilent := hsa.silent_eq (u := (s.arrive (moment i)).brushStep first) (by simp) (by simp)
    generalize hu : (s.arrive (moment i)).brushStep first = u at hf hsilent ⊢
    have hspray : u.spray = s.spray := by simp [← hu]
    have hloader : u.loader = s.loader := by simp [← hu]
    have hlink : u.link = s.link := by simp [← hu]
    have hdrive : u.drive.state = s.drive.state := by have h := congrArg Drive.state hf.drive; exact h
    have hmode : u.ctl.mode = s.ctl.mode := by have h := congrArg Controller.mode hf.ctl; exact h
    refine ⟨⟨by simp [hloader], by simp [← hu], by simp [← hu], ?_, by simp [← hu], by simp [← hu]⟩, by simp [hspray], ?_, ?_,
      ?_, ?_, ?_, fun c hc => ?_, ?_, ?_⟩
    · rw [State.finish_link_of_state (by rw [hlink]), hlink]
    · rw [State.finish_drive]; exact hf.drive
    · rw [State.finish_ctl, State.settle_ctl_eq, hsilent]
      exact congrArg (fun x : Controller => { x with contrib := .empty, silentCount := s.ctl.silentCount }) hf.ctl
    · rw [State.finish_ctl, State.settle_ctl_contrib, hs.contrib]
      unfold State.contributions
      rw [hdrive]
    · rw [State.finish_ctl, State.settle_ctl_contrib, hs.contrib]
      unfold State.contributions State.dustStands State.cfg
      rw [hspray, hloader]
    · intro src h0 h1
      rw [State.finish_ctl, State.settle_ctl_record]
      exact hf.records src h0 h1
    · obtain ⟨hb, htr, haf⟩ := hf.disabled c hc
      rw [State.finish_ctl, State.settle_ctl_contrib, State.finish_brush, Contributions.overrunOf_contributions,
        Contributions.transportOf_contributions, Contributions.afterFaultOf_contributions, hb, htr, haf, hs.contrib,
        Contributions.overrunOf_contributions, Contributions.transportOf_contributions,
        Contributions.afterFaultOf_contributions]
      exact ⟨by cases c <;> rfl, by cases c <;> rfl, rfl, rfl⟩
    · rw [State.finish_out, State.settle_out_butArms]; exact hf.out
    · rw [State.finish_out]
      exact SameForcing.of_effect (s := s.arrive (moment i)) hsa ho hmode hf.supply hf.coils

/-! ### The spray rows -/

/-- An edit of the spray channel, with its record and count. -/
def State.EditsSpray (s t : State) : Prop :=
  ∃ x y, t = (s.setCtl x).setSpray y ∧ Controller.SameButCounted .spray s.ctl x

/-- Whatever a step meets, it edits the channel alone (R77 to R86). -/
theorem State.editsSpray_applySpray (s : State) (cause : SprayCause) : s.EditsSpray (s.applySpray cause) := by
  have hrefl := Controller.SameButCounted.refl .spray s.ctl
  have hremoved := (Controller.sameButRecord_removeRecovering s.ctl .spray).counted (k := .spray)
  have hrecovering := (Controller.sameButRecord_makeRecovering s.ctl .spray).counted (k := .spray)
  cases cause
  case none =>
    unfold State.applySpray
    dsimp only
    split
    · exact ⟨_, _, rfl, hremoved⟩
    · exact ⟨_, _, rfl, hrefl⟩
  case recoveryEnd =>
    unfold State.applySpray
    dsimp only
    split
    · exact ⟨_, _, rfl, hrecovering⟩
    · exact ⟨_, _, rfl, hrecovering⟩
  case sensor | dryRun => exact ⟨_, _, rfl, Controller.sameButCounted_post _ _ _ _⟩
  case tankLowEmpty | primeEndSpraying | resume => exact ⟨_, _, rfl, hremoved⟩
  all_goals exact ⟨_, _, rfl, hrefl⟩

theorem State.sprayOutputs_eq (s : State) : ∃ y, s.sprayOutputs = s.setSpray y := ⟨_, rfl⟩

theorem State.editsSpray_sprayStep (s : State) : s.EditsSpray s.sprayStep := by
  obtain ⟨x, y, he, hx⟩ := s.editsSpray_applySpray s.sprayCause
  obtain ⟨z, hz⟩ := State.sprayOutputs_eq (s.applySpray s.sprayCause)
  refine ⟨x, z, ?_, hx⟩
  rw [State.sprayStep, hz, he]
  rfl

/-- Settles O32: a spray step edits the spray channel and what it posts. -/
theorem sprayRowsFrame : Obligations.SprayRowsFrame := by
  intro i s t hs ho ht hi he
  obtain rfl | rfl := exec_sprayRow ht hi he
  · exact ⟨⟨rfl, rfl, rfl, rfl, rfl, rfl⟩, rfl, rfl, rfl, rfl, rfl, rfl, fun _ _ => rfl, rfl, ⟨rfl, fun _ => ⟨rfl, rfl⟩⟩⟩
  · have hsa := hs.arrive (moment i)
    obtain ⟨x, y, hu, ⟨⟨v, l, rfl⟩, hrec⟩⟩ := (s.arrive (moment i)).editsSpray_sprayStep
    have hsilent := hsa.silent_eq (u := (s.arrive (moment i)).sprayStep) (by simp) (by simp)
    rw [hu] at hsilent ⊢
    refine ⟨⟨by simp, by simp, by simp, ?_, by simp, by simp⟩, by simp, by simp, by simp, by simp, ?_, ?_, ?_, ?_, ?_⟩
    · rw [State.finish_link_of_state (by simp)]
      simp
    · rw [State.finish_ctl, State.settle_ctl_eq, hsilent]
      rfl
    · rw [State.finish_ctl, State.settle_ctl_contrib, hs.contrib]
      rfl
    · rw [State.finish_ctl]
      exact hrec
    · rw [State.finish_out, State.settle_out_butSpray]
      rfl
    · rw [State.finish_out]
      refine SameForcing.of_effect (s := s.arrive (moment i)) hsa ho rfl rfl fun c => ?_
      cases c <;> exact ⟨rfl, rfl⟩

/-! ### The link rows -/

/-- No figure that follows reads the link. -/
theorem State.Settled.setLink {s : State} (h : s.Settled) (l : Link) : (s.setLink l).Settled :=
  ⟨h.contrib, h.cap, h.silent, h.lamp, h.forcing⟩

theorem State.discardFrame_eq (s : State) (f : BusFrame) : ∃ l, s.discardFrame f = s.setLink l := by
  unfold State.discardFrame
  split
  case h_6 | h_7 => exact ⟨s.link, rfl⟩
  all_goals exact ⟨_, rfl⟩

theorem exec_linkRow {i : Instr} {s t : State} (ht : s.takeable = false) (hi : isLinkRow i = true) (he : exec i s = .next t) :
    t = s.arrive (moment i) ∨ ∃ l, t = ((s.arrive (moment i)).setLink l).finish s.link.state := by
  cases i <;> cases hi <;> cases he
  case frameDiscard m f =>
    obtain ⟨l, hl⟩ := (s.arrive m).discardFrame_eq f
    exact (State.event_cases ht).imp_right fun h => ⟨l, hl ▸ h.2⟩
  all_goals exact (State.event_cases ht).imp_right fun h => ⟨_, h.2⟩

/-- Settles O41: these rows replace the link alone. -/
theorem linkRowsFrame : Obligations.LinkRowsFrame := by
  intro i s t hs ho ht hi he
  obtain rfl | ⟨l, rfl⟩ := exec_linkRow ht hi he
  · exact ⟨⟨rfl, rfl, rfl, rfl, rfl⟩, rfl, rfl, rfl, rfl, rfl, rfl, rfl⟩
  · have hsettle := ((hs.arrive (moment i)).setLink l).settle_eq ho
    refine ⟨⟨by simp, by simp, by simp, by simp, by simp⟩, by simp, by simp, by simp, by simp, by simp, ?_, ?_⟩
    · rw [State.finish_ctl, hsettle]
      rfl
    · rw [State.finish_out, hsettle]
      rfl

end Sys2Proof.Machine

/-! The peer table: arrivals, ageing, the views and the sum of peer demands (05). -/

namespace Sys2Proof.Machine

/-! ### Arrivals (R93, R95, R104, R114) -/

theorem State.receiveState_arrival {s : State} {f : BusFrame} {x : StateFrame} (hf : takenState f = some x)
    (hw : s.link.state ≠ .waking) (h0 : x.station ≠ 0) (h15 : x.station ≠ 15) (hown : x.station ≠ s.loader.station) :
    s.receiveState f = (s.frameEnded f).arrival x.clamp := by
  have hno : ¬(x.station = 0 ∨ x.station = 15 ∨ s.link.state = .waking) := by
    rintro (h | h | h)
    · exact h0 h
    · exact h15 h
    · exact hw h
  rw [State.receiveState, hf]
  exact (if_neg hno).trans (if_neg hown)

theorem State.arrival_peers (s : State) (f : StateFrame) :
    (s.arrival f).peers = s.peers.map fun p => if p.station == f.station then p.arrive f s.now else p := by
  unfold State.arrival
  dsimp only
  split
  · rw [(State.driveYield_keeps _).2.2.2.2.2.2.2.2.1]
    rfl
  · rfl

theorem State.arrival_of_yield {s : State} {f : StateFrame} (hc : f.claim = true) (hl : f.station < s.loader.station) :
    s.arrival f = (s.updatePeer f.station fun p => p.arrive f s.now).driveYield := if_pos ⟨hc, hl⟩

/-- The drive of a station that hears no lower claimant, or does not claim itself, stays as it is. -/
theorem State.arrival_drive {s : State} {f : StateFrame}
    (h : f.claim = false ∨ s.loader.station < f.station ∨ s.drive.state.claims = false) : (s.arrival f).drive = s.drive := by
  unfold State.arrival
  dsimp only
  split
  · rename_i hy
    have hnc : s.drive.state.claims = false := by
      rcases h with h | h | h
      · simp [h] at hy
      · exact absurd hy.2 (by omega)
      · exact h
    unfold State.driveYield
    rw [if_neg (by simp [hnc])]
    rfl
  · rfl

/-- What a claiming drive that yields leaves (R22). -/
theorem State.driveYield_of_claims {s : State} (h : s.drive.state.claims = true) :
    s.driveYield.drive.state = .yielded ∧ s.driveYield.out.driveF.shadow = 0 ∧ s.driveYield.out.driveR.shadow = 0 ∧
      s.driveYield.out.parkRelease = false ∧ s.driveYield.out.boost = false ∧
      s.driveYield.ctl.record .drive = some { source := .drive, code := .claim, state := .latched } := by
  unfold State.driveYield
  rw [if_pos h]
  exact ⟨rfl, rfl, rfl, rfl, rfl, by simp [State.postDrive]⟩

theorem State.arrival_queue (s : State) (f : StateFrame) : (s.arrival f).ctl.queue = s.ctl.queue := by
  unfold State.arrival State.driveYield
  dsimp only
  split
  · split
    · simp [State.postDrive]
    · rfl
  · rfl

theorem State.settle_out_driveF_shadow (s : State) : s.settle.out.driveF.shadow = s.out.driveF.shadow := CoilOut.forced_shadow _ _
theorem State.settle_out_driveR_shadow (s : State) : s.settle.out.driveR.shadow = s.out.driveR.shadow := CoilOut.forced_shadow _ _
theorem State.settle_out_pump_shadow (s : State) : s.settle.out.pump.shadow = s.out.pump.shadow := CoilOut.forced_shadow _ _

/-- Settles O36: the frame is handed on in range, and the drive is told of a lower claimant. -/
theorem arrivalReplacesTheRecord : Obligations.ArrivalReplacesTheRecord := by
  intro m f x s ht hr hf hw h0 h15 hown
  have hd : ((s.arrive m).link.receivingFrame && (takenState f).isSome) = true := by simp [hr, hf]
  refine ⟨_, exec_of_due ht hd rfl, ?_⟩
  rw [State.receiveState_arrival (s := s.arrive m) hf hw h0 h15 hown]
  refine ⟨?_, by simp, by simp, by simp, by simp, by simp, by simp, ?_, fun hc hl hclaims => ?_, fun h => ?_⟩
  · rw [State.finish_peers, State.arrival_peers]
    refine List.map_congr_left fun p _ => ?_
    simp only [beq_iff_eq]
    refine if_congr Iff.rfl ?_ rfl
    simp [Peer.arrive, StateFrame.fields, StateFrame.clamp, clampNat, State.frameEnded]
  · rw [State.finish_ctl_queue, State.arrival_queue]
    rfl
  · obtain ⟨h1, h2, h3, h4, h5, h6⟩ := State.driveYield_of_claims
      (s := ((s.arrive m).frameEnded f).updatePeer x.clamp.station fun p => p.arrive x.clamp ((s.arrive m).frameEnded f).now) hclaims
    rw [State.arrival_of_yield (s := (s.arrive m).frameEnded f) (f := x.clamp) hc hl]
    simp only [State.finish_drive, State.finish_out, State.finish_ctl, State.settle_out_driveF_shadow,
      State.settle_out_driveR_shadow, State.settle_out_parkRelease, State.settle_out_boost, State.settle_ctl_record]
    exact ⟨h1, h2, h3, h4, h5, h6⟩
  · rw [State.finish_drive]
    exact State.arrival_drive (s := (s.arrive m).frameEnded f) (f := x.clamp) h

/-! ### Ageing (R96, R97) -/

theorem State.aged_of {p : Peer} {now b T k : Nat} (hT : p.period = some T) (hb : p.age = some b)
    (h : b + k * T * 1000 ≤ now) : p.aged now k = true := by
  unfold Peer.aged
  rw [hT]
  exact ranFor_of_le hb h

/-- A table edit that leaves the expected silent peers' number as it is bears on no figure that follows. -/
theorem State.Settled.setPeers {s : State} (h : s.Settled) {l : List Peer} (hs : (s.setPeers l).silentExpected = s.silentExpected) :
    (s.setPeers l).Settled := by
  refine ⟨h.contrib, h.cap, h.silent.trans hs.symm, ?_, h.forcing⟩
  unfold State.lampLevel
  rw [hs]
  exact h.lamp

/-- Neither a FRESH nor a STALE record is silent. -/
theorem State.silentExpected_updatePeer_stale {s : State} (hw : s.PeersWf) {n : Nat} {p : Peer} (hp : s.peer n = some p)
    (hf : p.fresh = .fresh) : (s.updatePeer n Peer.stale).silentExpected = s.silentExpected := by
  have hformed := (State.peersWf_iff s).mp hw
  obtain ⟨hmem, hst⟩ := State.mem_peers_of_peer hp
  simp only [State.silentExpected_eq, State.updatePeer, State.setPeers_peers, State.setPeers_tableOwn, List.filter_map,
    List.length_map]
  refine congrArg List.length (List.filter_congr fun q hq => ?_)
  simp only [Function.comp]
  split
  · rename_i hqn
    obtain rfl := hformed.unique hq hmem ((beq_iff_eq.mp hqn).trans hst.symm)
    rw [hf, show q.stale.fresh = .stale from rfl, show (Freshness.stale == .silent) = (Freshness.fresh == .silent) from rfl]
    rfl
  · rfl

/-- Settles O37: the two ageing rows change one record. -/
theorem recordsAgeToStaleAndSilent : Obligations.RecordsAgeToStaleAndSilent := by
  refine ⟨fun m n T b p s ht hs ho hw hp hf hT hb hle => ?_, fun m n T b p s ht hp hf hT hb hle => ?_⟩
  · have hd : (s.arrive m).freshDue n = true := by
      unfold State.freshDue
      rw [show (s.arrive m).peer n = some p from hp]
      simp [hf, State.aged_of hT hb hle]
    have he : (s.arrive m).updatePeer n Peer.stale =
        (s.arrive m).setPeers (s.peers.map fun q => if q.station = n then { q with fresh := .stale } else q) := by
      simp [State.updatePeer, Peer.stale]
    refine exec_of_due_settled ht hd rfl he ?_ ho rfl
    rw [← he]
    exact (hs.arrive m).setPeers (State.silentExpected_updatePeer_stale (s := s.arrive m) ⟨hw.places, hw.absent, hw.ages⟩ hp hf)
  · have hd : (s.arrive m).staleDue n = true := by
      unfold State.staleDue
      rw [show (s.arrive m).peer n = some p from hp]
      simp [hf, State.aged_of hT hb hle]
    refine ⟨_, exec_of_due ht hd rfl, ?_, ⟨by simp, by simp, by simp, by simp, by simp⟩, by simp, by simp, ?_, by simp, by simp,
      by simp, by simp, fun hexp hmode => ?_⟩
    · rw [State.finish_peers]
      refine List.map_congr_left fun q _ => ?_
      simp only [beq_iff_eq]
      refine if_congr Iff.rfl ?_ rfl
      unfold Peer.expired Peer.cleared
      split
      · rfl
      · rfl
    · rw [State.finish_link_of_state (by rfl)]
      rfl
    · obtain ⟨hmem, hown⟩ := State.mem_others.mp (List.mem_of_find?_eq_some hp)
      have hst : p.station = n := (State.mem_peers_of_peer hp).2
      have hpos : 0 < ((s.arrive m).updatePeer n Peer.expired).silentExpected := by
        refine State.silentExpected_pos_iff.mpr ⟨p.expired, List.mem_map.mpr ⟨p, hmem, by simp [hst]⟩, ?_⟩
        rw [Peer.expired, if_pos hexp]
        exact ⟨hown, hexp, rfl⟩
      rw [State.finish_out]
      show (((s.arrive m).updatePeer n Peer.expired).lampLevel) = true
      simp [State.lampLevel, hpos, hmode]

/-! ### The views (R102, R103, R106) -/

theorem DriveState.claims_eq (d : DriveState) : d.claims = true ↔ d ≠ .yielded ∧ d ≠ .disabled := by
  cases d <;> simp [DriveState.claims]

/-- In a table with its places in order, a record that the views read is the one its number names. -/
theorem State.peer_of_mem {s : State} (hw : s.PeersWf) {p : Peer} (hp : p ∈ s.peers) (hown : s.tableOwn ≠ some p.station) :
    s.peer p.station = some p := by
  have hmem : p ∈ s.others := State.mem_others.mpr ⟨hp, hown⟩
  obtain ⟨q, hq⟩ : ∃ q, s.peer p.station = some q :=
    Option.isSome_iff_exists.mp (List.find?_isSome.mpr ⟨p, hmem, by simp⟩)
  obtain ⟨hqmem, hqst⟩ := State.mem_peers_of_peer hq
  rw [hq, ((State.peersWf_iff s).mp hw).unique hqmem hp hqst]

theorem State.peer_own {s : State} {n : Nat} (h : s.tableOwn = some n) : s.peer n = none := by
  rw [State.peer, List.find?_eq_none]
  intro p hp
  have hne := (State.mem_others.mp hp).2
  rw [h] at hne
  simpa using fun e : p.station = n => hne (by rw [e])

/-- An owner that is not this station is a record that claims (R101). -/
theorem State.claims_of_owner {s : State} (hw : s.PeersWf) {p : Peer} (hp : p ∈ s.peers) (ho : s.owner = some p.station)
    (hself : s.ownsDrive = false) : p.claims = true := by
  obtain ⟨hn, hc⟩ | ⟨q, hq, hc, hst⟩ := State.mem_claimants.mp (State.owner_eq_some_iff.mp ho).1
  · simp [State.ownsDrive, hc, ho, hn] at hself
  · rw [← ((State.peersWf_iff s).mp hw).unique (State.mem_others.mp hq).1 hp hst]
    exact hc

theorem State.views_of_no_owner {s : State} (h : s.owner = none) (engine : Nat) :
    s.paceView = .unknown ∧ s.budgetView engine = .fallback s.cfg.general.fallbackBudget := by
  have hn : s.ownsDrive = false := by simp [State.ownsDrive, h]
  simp [State.paceView, State.budgetView, hn, h]

theorem State.views_of_ownsDrive {s : State} (h : s.ownsDrive = true) (engine : Nat) :
    s.budgetView engine = .known engine ∧ s.paceView = if s.drive.blind = true then .unknown else .known s.capture.pace := by
  simp [State.paceView, State.budgetView, h]

/-- Of another owner the views are its record's. -/
theorem State.views_of_peer {s : State} {p : Peer} (hself : s.ownsDrive = false) (ho : s.owner = some p.station)
    (hp : s.peer p.station = some p) (engine : Nat) :
    s.paceView = p.paceView ∧ s.budgetView engine = p.budgetView s.cfg.general.fallbackBudget := by
  simp [State.paceView, State.budgetView, hself, ho, hp]

theorem Peer.paceView_of_heard {p : Peer} {f : PeerFields} (hh : p.fresh = .fresh ∨ p.fresh = .stale) (hf : p.fields = some f) :
    p.paceView = f.pace.elim .unknown fun v => if p.fresh = .fresh then .known v else .held v := by
  unfold Peer.paceView
  rw [hf]
  rcases hh with h | h <;> cases hv : f.pace <;> simp [h, hv]

theorem Peer.budgetView_of_heard {p : Peer} {f : PeerFields} (hh : p.fresh = .fresh ∨ p.fresh = .stale) (hf : p.fields = some f)
    (fallback : Nat) :
    p.budgetView fallback = f.budget.elim (.fallback fallback) fun b => if p.fresh = .fresh then .known b else .held b := by
  unfold Peer.budgetView
  rw [hf]
  rcases hh with h | h <;> cases hv : f.budget <;> simp [h, hv]

/-! ### The sum of peer demands (R105) -/

/-- A table with its places in order holds 13 records of other stations. -/
theorem State.others_length {s : State} (hw : s.PeersWf) {n : Nat} (hn : s.tableOwn = some n) (h1 : 1 ≤ n) (h14 : n ≤ 14) :
    s.others.length = 13 := by
  have hmap : s.others.map Peer.station = (s.peers.map Peer.station).filter fun k => some n != some k := by
    rw [List.filter_map, State.others, hn]
    rfl
  rw [← List.length_map (f := Peer.station), hmap, hw.places]
  interval_cases n <;> rfl

theorem Peer.demandFigure_le {p : Peer} (h : ∀ f, p.fields = some f → ∀ v, f.demand = some v → v ≤ 2000) :
    p.demandFigure ≤ 2000 := by
  have hget : (p.fields.bind (·.demand)).getD 0 ≤ 2000 := by
    cases hf : p.fields with
    | none => simp
    | some f =>
      cases hv : f.demand with
      | none => simp [hv]
      | some v => simpa [hv] using h f hf v hv
  unfold Peer.demandFigure
  split
  · exact Nat.zero_le _
  all_goals exact hget

/-- Settles O40: the views by the owner, the report by its record, and the sum record by record. -/
theorem peerDemandsAreSummed : Obligations.PeerDemandsAreSummed := by
  refine ⟨?_, fun s => ⟨?_, fun hw ⟨n, hn, h1, h14⟩ hv => ?_⟩⟩
  · intro s engine fallback self
    refine ⟨fun ho => s.views_of_no_owner ho engine, fun ho hself => ?_, fun hw p hp ho hother hown => ?_, fun hw p hp channel => ?_⟩
    · have h : s.ownsDrive = true := by simp [State.ownsDrive, ho, (DriveState.claims_eq _).mpr hself]
      exact s.views_of_ownsDrive h engine
    · have hself : s.ownsDrive = false := by
        rw [Bool.eq_false_iff]
        intro h
        simp only [State.ownsDrive, Bool.and_eq_true, beq_iff_eq, ho, Option.some.injEq] at h
        rcases hother with hne | hno
        · exact hne h.2
        · exact hno ((DriveState.claims_eq _).mp h.1)
      obtain ⟨hh, f, hf, -⟩ := (Peer.claims_iff p).mp (State.claims_of_owner hw hp ho hself)
      obtain ⟨hpace, hbudget⟩ := State.views_of_peer hself ho (State.peer_of_mem hw hp hown) engine
      refine ⟨hh, f, hf, ?_, ?_⟩
      · rw [hpace, Peer.paceView_of_heard hh hf]
        cases f.pace <;> rfl
      · rw [hbudget, Peer.budgetView_of_heard hh hf]
        cases f.budget <;> rfl
    · unfold State.peerBrush
      by_cases hown : s.tableOwn = some p.station
      · rw [State.peer_own hown, if_neg fun h => h.1 hown]
        rfl
      · rw [State.peer_of_mem hw hp hown, Option.bind_some]
        refine if_congr ?_ ?_ rfl
        · rw [Freshness.heard_iff]
          exact ⟨fun h => ⟨hown, h⟩, And.right⟩
        · cases p.fields <;> rfl
  · unfold State.peerDemands State.others
    refine congrArg List.sum (List.map_congr_left fun p _ => ?_)
    unfold Peer.demandFigure
    cases p.fresh <;> rfl
  · have hle : s.peerDemands ≤ (s.others.map Peer.demandFigure).length * 2000 :=
      List.sum_le_card_nsmul _ _ fun v hmem => by
        obtain ⟨p, hp, rfl⟩ := List.mem_map.mp hmem
        exact Peer.demandFigure_le (hv p (State.mem_others.mp hp).1)
    rw [List.length_map, State.others_length hw hn h1 h14] at hle
    exact hle

end Sys2Proof.Machine

/-! The station bus link: the receiver, sending, abandons, completion, timers and identity clashes (06). -/

namespace Sys2Proof.Machine

/-! ### Posting by the common latching rule (R135) -/

/-- A posting gives the source's record the code, and the state that the rule names. -/
theorem Controller.post_record (x : Controller) (now : Micros) (k : Counted) (code : FaultCode) :
    (x.post now k code).1.record (sourceOf k) =
      some { source := sourceOf k, code := code, state := (x.post now k code).2 } := by
  obtain ⟨st, n, he, -⟩ := x.post_spec now k code
  rw [he, Controller.record_putRecord, if_pos rfl]

/-- A source with no record, or a RECOVERING one, and a count below 3: an ACTIVE record, and one posting more. -/
theorem Controller.post_of_below {x : Controller} {now : Micros} {k : Counted} {code : FaultCode}
    (h : x.recordState (sourceOf k) = none ∨ x.recordState (sourceOf k) = some .recovering) (hc : (x.recovery k).count < 3) :
    x.post now k code =
      ((x.setRecovery k { count := (x.recovery k).count + 1, window := some now }).putRecord (sourceOf k) code .active,
        .active) := by
  unfold Controller.post
  rcases h with h | h <;> rw [h] <;> exact if_neg (Nat.not_le.mpr hc)

/-- Such a source with a count of 3: a LATCHED record, and the count as it is. -/
theorem Controller.post_of_three {x : Controller} {now : Micros} {k : Counted} {code : FaultCode}
    (h : x.recordState (sourceOf k) = none ∨ x.recordState (sourceOf k) = some .recovering) (hc : (x.recovery k).count = 3) :
    x.post now k code =
      ((x.setRecovery k { count := (x.recovery k).count, window := some now }).putRecord (sourceOf k) code .latched,
        .latched) := by
  unfold Controller.post
  rcases h with h | h <;> rw [h] <;> exact if_pos hc.ge

/-! ### The link at the end of an event -/

theorem State.finish_link_of_not_active {b : LinkState} {s : State} (h : s.link.state ≠ .active) : (s.finish b).link = s.link := by
  rw [State.finish_link, if_neg fun hc => h hc.1]

theorem State.finish_link_of_idle {b st : LinkState} {s : State} (h : s.link.state = st) (hst : st ≠ .active) :
    (s.finish b).link = s.link :=
  State.finish_link_of_not_active (h ▸ hst)

/-- A link that the event made ACTIVE has its frame built. -/
theorem State.finish_link_pending {b : LinkState} {s : State} (h : s.link.state = .active) (hb : b ≠ .active) :
    (s.finish b).link.pending.isSome = true := by
  rw [State.finish_link, if_pos ⟨h, hb⟩]
  rfl

/-- A row that leaves the link state as it is: the link is what its effect left. -/
theorem exec_link_of_due {i : Instr} {s : State} {m : Moment} {due : State → Bool} {eff : State → State} {l : Link}
    (ht : s.takeable = false) (hd : due (s.arrive m) = true) (he : exec i s = .next (s.event m due eff))
    (hl : (eff (s.arrive m)).link = l) (hs : l.state = s.link.state) : ∃ t, exec i s = .next t ∧ t.link = l :=
  ⟨_, exec_of_due ht hd he, (State.finish_link_of_state (by rw [hl, hs])).trans hl⟩

theorem State.finish_link_listenTimer (b : LinkState) (s : State) : (s.finish b).link.listenTimer = s.link.listenTimer := by
  rw [State.finish_link]
  split <;> rfl

/-! ### The receiver (R108, R112) -/

/-- The checks after class and length: one that fails, or the frame is what its payload decodes to. -/
theorem frameTail_cases (f : BusFrame) (taken : Option FrameFate) :
    (frameTail f taken = .badShape ∨ frameTail f taken = .badCrc ∨ frameTail f taken = .badEnd) ∨
      ∃ x, taken = some x ∧ crcMatches f = true ∧ f.endField = 127#7 ∧ frameTail f taken = x := by
  unfold frameTail
  split
  · exact .inl (.inl rfl)
  · rename_i x
    by_cases hc : crcMatches f = true
    · by_cases he : f.endField = 127#7
      · exact .inr ⟨x, rfl, hc, he, by simp [hc, he]⟩
      · exact .inl (.inr (.inr (by simp [hc, he])))
    · exact .inl (.inr (.inl (by simp [hc])))

/-- The length byte of a frame that announces its payload fits its class (R108). -/
def LengthFits (f : BusFrame) : Prop :=
  (f.cls = 0#2 ∧ 3 ≤ f.length.toNat ∧ f.length.toNat ≤ 5) ∨ (f.cls = 1#2 ∧ 6 ≤ f.length.toNat ∧ f.length.toNat ≤ 29)

/-- A frame of a fitting length goes through the checks to its end; any other is broken off. -/
theorem frameFate_cases {f : BusFrame} (hlen : f.payload.length = f.length.toNat) :
    (LengthFits f ∧ ∃ taken, frameFate f = frameTail f taken ∧
        ∀ x, taken = some x → (∃ y, x = .state y) ∨ ∃ mask c, x = .command mask c) ∨
      (¬LengthFits f ∧ (frameFate f = .unknownClass ∨ frameFate f = .brokenOff)) := by
  have hne : (0#2 : BitVec 2) ≠ 1#2 := by decide
  unfold frameFate LengthFits
  dsimp only
  rw [hlen]
  by_cases h0 : f.cls = 0#2
  · rw [if_pos h0]
    split
    · rename_i hl
      refine .inl ⟨.inl ⟨h0, hl.1, hl.2.1⟩, _, rfl, fun x hx => ?_⟩
      obtain ⟨⟨mask, c⟩, -, rfl⟩ := Option.map_eq_some_iff.mp hx
      exact .inr ⟨mask, c, rfl⟩
    · rename_i hl
      refine .inr ⟨?_, .inr rfl⟩
      rintro (h | h)
      · exact hl ⟨h.2.1, h.2.2, rfl⟩
      · exact hne (h0.symm.trans h.1)
  · rw [if_neg h0]
    split
    · rename_i h1
      split
      · rename_i hl
        refine .inl ⟨.inr ⟨h1, hl.1, hl.2.1⟩, _, rfl, fun x hx => ?_⟩
        obtain ⟨y, -, rfl⟩ := Option.map_eq_some_iff.mp hx
        exact .inl ⟨y, rfl⟩
      · rename_i hl
        refine .inr ⟨?_, .inr rfl⟩
        rintro (h | h)
        · exact h0 h.1
        · exact hl ⟨h.2.1, h.2.2, rfl⟩
    · rename_i h1
      refine .inr ⟨?_, .inl rfl⟩
      rintro (h | h)
      · exact h0 h.1
      · exact h1 h.1

/-- A frame that is not taken and has a fitting length fails at its end; any other is broken off. -/
theorem frameFate_of_discarded {f : BusFrame} (hlen : f.payload.length = f.length.toNat) (hs : takenState f = none)
    (hc : takenCommand f = none) :
    (LengthFits f → frameFate f = .badShape ∨ frameFate f = .badCrc ∨ frameFate f = .badEnd) ∧
      (¬LengthFits f → frameFate f = .unknownClass ∨ frameFate f = .brokenOff) := by
  obtain ⟨hfits, taken, he, htaken⟩ | ⟨hno, h⟩ := frameFate_cases hlen
  · refine ⟨fun _ => ?_, fun hn => absurd hfits hn⟩
    obtain h | ⟨x, hx, -, -, h⟩ := frameTail_cases f taken
    · rw [he]
      exact h
    · rw [h] at he
      obtain ⟨y, rfl⟩ | ⟨mask, c, rfl⟩ := htaken x hx
      · simp [takenState, he] at hs
      · simp [takenCommand, he] at hc
  · exact ⟨fun hf => absurd hf hno, fun _ => h⟩

theorem State.discardFrame_of_ended {s : State} {f : BusFrame}
    (h : frameFate f = .badShape ∨ frameFate f = .badCrc ∨ frameFate f = .badEnd) : s.discardFrame f = s.frameEnded f := by
  unfold State.discardFrame
  rcases h with h | h | h <;> rw [h]

theorem State.discardFrame_of_broken {s : State} {f : BusFrame} (h : frameFate f = .unknownClass ∨ frameFate f = .brokenOff) :
    s.discardFrame f = s.setLink (s.link.hunt 0) := by
  unfold State.discardFrame
  rcases h with h | h <;> rw [h]

/-- Settles O43: the three rows of the receiver, and the count of an end field's last bits. -/
theorem receiverFollowsTheBus : Obligations.ReceiverFollowsTheBus := by
  refine ⟨fun m f s ht hr hlen hs hc => ?_, by decide, fun m restarted n s ht hrec hh hf hn => ?_, fun m s ht hrec hi hf => ?_⟩
  · have hd : ((s.arrive m).link.receivingFrame && discarded f) = true := by simp [hr, discarded, hs, hc]
    obtain ⟨hfits, hbroken⟩ := frameFate_of_discarded hlen hs hc
    refine exec_link_of_due ht hd rfl ?_ rfl
    split
    · rename_i h
      rw [State.discardFrame_of_ended (hfits h)]
      rfl
    · rename_i h
      rw [State.discardFrame_of_broken (hbroken h)]
      rfl
  · have hd : (s.arrive m).link.idleDue restarted n = true := by simp [Link.idleDue, hrec, hh, hf, hn]
    exact exec_link_of_due ht hd rfl rfl rfl
  · have hd : ((s.arrive m).link.state.receives && (s.arrive m).link.receiver == .idle && (s.arrive m).link.inFlight.isNone) =
        true := by simp [hrec, hi, hf]
    exact exec_link_of_due ht hd rfl rfl rfl

/-! ### Building and starting a frame (R109, R111) -/

/-- A period code counts tens of ms. -/
theorem ms_ten_mul (n : Nat) : ms (10 * n) = n * 10000 := by
  show (10 * n * 1000 : Nat) = n * 10000
  omega

theorem Brush.report_eq (b : Brush) (k : Nat) :
    b.report k =
      if b.state = .disabled then []
      else [{ channel := k, state := b.state.code, overrun := b.overrun, starved := b.starved }] := by
  simp [Brush.report]

/-- Settles O44: the snapshot is `State.snapshot`, and the two rows are `State.buildFrame` and `Link.start`. -/
theorem framesAreBuiltAndStarted : Obligations.FramesAreBuiltAndStarted := by
  refine ⟨fun m s b ht hst hb hle => ?_, ⟨rfl, rfl, rfl, rfl, rfl, rfl⟩, fun m f s ht hst hrec hp hf => ?_⟩
  · have hd : (s.arrive m).periodDue = true := by
      rw [State.periodDue, Bool.and_eq_true, beq_iff_eq]
      refine ⟨hst, ranFor_of_le hb ?_⟩
      rw [ms_ten_mul]
      exact hle
    refine ⟨_, (s.arrive m).snapshot, exec_of_due ht hd rfl, ?_, rfl, rfl, rfl, ?_, rfl, rfl, rfl, beq_iff_eq, rfl, ?_, rfl, ?_,
      ?_, ?_, rfl⟩
    · rw [State.finish_link_of_state (by rfl), State.finish_now]
      rfl
    · exact DriveState.claims_eq _
    · simp [State.snapshot]
    · show (if s.anyBrush then some s.ration.demand else none) = _
      have hany : s.anyBrush = true ↔ ¬(s.brush0.state = .disabled ∧ s.brush1.state = .disabled) := by
        rw [not_and_or]
        simp [State.anyBrush, State.brushEnabled, State.brush]
      split
      · rw [if_neg (hany.mp ‹_›)]
      · rw [if_pos (not_not.mp fun h => ‹¬s.anyBrush = true› (hany.mpr h))]
    · simp [State.snapshot, Brush.report_eq]
    · show s.spray.report = _
      have htank : (s.spray.state == .empty || s.spray.tankLow) = decide (s.spray.state = .empty ∨ s.spray.tankLow = true) := by
        rw [Bool.decide_or, Bool.decide_eq_true]
        rfl
      unfold Spray.report
      rw [htank]
      simp
  · have hd : (s.arrive m).link.startDue = true := by simp [Link.startDue, hst, hrec, hp, hf]
    obtain ⟨t, he, hl⟩ := exec_link_of_due (i := .busIdleStart m) (l := s.link.start) ht hd rfl rfl rfl
    refine ⟨t, he, ?_⟩
    rw [hl]
    exact ⟨hp, rfl, hst, rfl⟩

/-! ### Loss, abandon and completion (R109, R110, R116, R117, R131) -/

theorem Link.loseArbitration_spec {l : Link} {f : OwnFrame} (hf : l.inFlight = some f) :
    l.loseArbitration.inFlight = none ∧ l.loseArbitration.abandons = l.abandons ∧ l.loseArbitration.state = l.state ∧
      l.loseArbitration.pending = if l.finishing = true then l.pending else some (l.pending.getD f) := by
  have hp : (if l.finishing || l.pending.isSome then l.pending else l.inFlight) =
      if l.finishing = true then l.pending else some (l.pending.getD f) := by
    rw [hf]
    cases l.finishing <;> cases l.pending <;> rfl
  unfold Link.loseArbitration
  dsimp only
  split <;> exact ⟨rfl, rfl, rfl, hp⟩

theorem Link.sendsOn_iff {l : Link} : (l.state == .active && !l.finishing) = true ↔ l.state = .active ∧ l.finishing = false := by
  simp

/-- A bit error that does not stop the link (R110). -/
theorem State.abandon_link_of_stays {s : State}
    (h : ¬((s.link.state == .active && !s.link.finishing) = true ∧ 8 ≤ s.link.abandons + 1)) :
    s.abandon.link.inFlight = none ∧ s.abandon.link.state = s.link.state ∧ s.abandon.link.pending = s.link.pending ∧
      s.abandon.link.abandons =
        if (s.link.state == .active && !s.link.finishing) = true then s.link.abandons + 1 else s.link.abandons := by
  unfold State.abandon
  dsimp only
  rw [if_neg h]
  split <;> exact ⟨rfl, rfl, rfl, rfl⟩

/-- The eighth abandon: the link restarted, and LISTEN_ONLY entered (R117). -/
theorem State.abandon_of_eighth {s : State}
    (h : (s.link.state == .active && !s.link.finishing) = true ∧ 8 ≤ s.link.abandons + 1) :
    ∃ l, s.abandon = (s.setLink l).listenOnly ∧ l.inFlight = none ∧ l.latched = s.link.latched := by
  unfold State.abandon
  dsimp only
  rw [if_pos h]
  split <;> exact ⟨_, rfl, rfl, rfl⟩

theorem State.listenOnly_link (s : State) :
    s.listenOnly.link =
      { s.link.restart with
        state := .listenOnly, listenTimer := some s.now,
        latched := s.link.restart.latched || (s.ctl.post s.now .link .txErrors).2 == .latched } := rfl

/-- Settles O45: `Link.loseArbitration`, and `State.abandon` by the abandon count. -/
theorem framesAreLostAndAbandoned : Obligations.FramesAreLostAndAbandoned := by
  refine ⟨fun m bit f s ht hf hbit => ?_, fun m bit f s ht hf h7 hbits => ?_⟩
  · have hd : ((s.arrive m).link.inFlight.isSome && decide (bit ≤ 6)) = true := by simp [hf, hbit]
    obtain ⟨h1, h2, h3, h4⟩ := Link.loseArbitration_spec hf
    obtain ⟨t, he, hl⟩ := exec_link_of_due (i := .arbitrationLoss m bit) (l := s.link.loseArbitration) ht hd rfl rfl h3
    exact ⟨t, he, by rw [hl, h1], by rw [hl, h2], by rw [hl, h3], by rw [hl, h4]⟩
  · have hd : (decide (7 ≤ bit) && (s.arrive m).link.inFlight.any fun f => decide (bit < f.bits)) = true := by
      simp [h7, hf, hbits]
    refine ⟨_, exec_of_due ht hd rfl, ?_⟩
    by_cases h : (s.link.state == .active && !s.link.finishing) = true ∧ 8 ≤ s.link.abandons + 1
    · obtain ⟨l, he, hl, hlatched⟩ := State.abandon_of_eighth (s := s.arrive m) h
      have hact := Link.sendsOn_iff.mp h.1
      obtain ⟨hpend, hperiod, habandons, hin, -⟩ := l.restart_spec
      have hpost := Controller.post_record s.ctl (s.arrive m).now .link .txErrors
      have hrec : (s.ctl.post (s.arrive m).now .link .txErrors).1.recordState .link =
          some (s.ctl.post (s.arrive m).now .link .txErrors).2 := by
        rw [Controller.recordState, show Source.link = sourceOf .link from rfl, hpost]
        rfl
      have hctl : ((s.arrive m).setLink l).listenOnly.ctl = (s.ctl.post (s.arrive m).now .link .txErrors).1 := rfl
      rw [he, State.finish_link_of_idle (st := .listenOnly) rfl (by decide), State.finish_now]
      refine ⟨hin.trans hl, fun hn => ?_, fun _ _ hlt => ?_, fun _ _ _ => ⟨rfl, habandons, rfl, hpend, hperiod, ?_, ?_, ?_⟩⟩
      · rcases hn with hn | hn
        · exact absurd hact.1 hn
        · exact absurd hn (by simp [hact.2])
      · omega
      · rw [State.finish_ctl, State.settle_ctl_record, hctl, show Source.link = sourceOf .link from rfl, hpost]
        rfl
      · intro hn hc
        have hp := Controller.post_of_below (x := s.ctl) (k := .link) (now := (s.arrive m).now) (code := .txErrors) (.inl hn) hc
        rw [State.finish_ctl, State.settle_ctl_recordState, State.settle_ctl_linkCount, hctl]
        refine ⟨by rw [hrec, hp], ?_⟩
        rw [hp]
        simp [Controller.setRecovery, Controller.recovery]
      · intro hn hc
        have hp := Controller.post_of_three (x := s.ctl) (k := .link) (now := (s.arrive m).now) (code := .txErrors) (.inl hn) hc
        rw [State.finish_ctl, State.settle_ctl_recordState, hctl]
        refine ⟨by rw [hrec, hp], ?_⟩
        rw [State.listenOnly_link]
        show (l.restart.latched || (s.ctl.post (s.arrive m).now .link .txErrors).2 == .latched) = true
        rw [hp]
        simp
    · obtain ⟨h1, h2, h3, h4⟩ := State.abandon_link_of_stays (s := s.arrive m) h
      rw [State.finish_link_of_state (b := s.link.state) h2, h1, h2, h3, h4]
      refine ⟨rfl, fun hn => ⟨if_neg fun hc => ?_, rfl⟩, fun ha hfin hlt => ⟨if_pos ?_, ha, rfl⟩, fun ha hfin h7 => ?_⟩
      · obtain ⟨hact, hfin⟩ := Link.sendsOn_iff.mp hc
        rcases hn with hn | hn
        · exact hn hact
        · exact Bool.eq_false_iff.mp hfin hn
      · simp [ha, hfin]
      · exact absurd ⟨by simp [ha, hfin], by omega⟩ h

/-- Settles O46: `State.complete`, by whether the frame is whole in the link's eyes. -/
theorem completionClearsWhatItReported : Obligations.CompletionClearsWhatItReported := by
  intro m f s ht hf
  have hd : (s.arrive m).link.inFlight.isSome = true := by simp [hf]
  have hsent : (s.arrive m).sentToCompletion = (s.arrive m).complete f := by
    rw [State.sentToCompletion, show (s.arrive m).link.inFlight = some f from hf]
  refine ⟨_, exec_of_due ht hd rfl, ?_⟩
  have hlink := State.finish_link_of_state (b := s.link.state) (s := (s.arrive m).complete f) rfl
  have hctl : ((s.arrive m).complete f).ctl =
      if (s.link.state == .active && !s.link.finishing) = true then (s.ctl.completed f).removeRecovering .link
      else s.ctl.completed f := rfl
  have habandons : ((s.arrive m).complete f).link.abandons =
      if (s.link.state == .active && !s.link.finishing) = true then 0 else s.link.abandons := rfl
  have hoverrun : ((s.arrive m).complete f).ctl.overrun = (s.ctl.completed f).overrun := by
    rw [hctl]
    split <;> rfl
  have hfaults : (s.ctl.completed f).faults = s.ctl.faults := by
    unfold Controller.completed
    split <;> rfl
  rw [hsent, hlink, State.finish_ctl]
  refine ⟨rfl, rfl, rfl, rfl, rfl, fun ho hdis => ?_, fun hn => ?_, fun ha hfin => ?_, fun hn => ?_⟩
  · rw [State.settle_ctl_overrun, hoverrun, Controller.completed, if_pos ⟨ho, hdis⟩]
  · rw [State.settle_ctl_overrun, hoverrun, Controller.completed, if_neg]
    rintro ⟨ho, hdis⟩
    rcases hn with hn | hn
    · exact absurd ho (by simp [hn])
    · exact hn hdis
  · have hw := Link.sendsOn_iff.mpr ⟨ha, hfin⟩
    refine ⟨by rw [habandons, if_pos hw], fun hwf hr => ?_⟩
    rw [State.settle_ctl_record, hctl, if_pos hw]
    refine Controller.record_removeRecovering _ (by rw [hfaults]; exact hwf.sources) ?_
    unfold Controller.recordState Controller.record
    rw [hfaults]
    exact hr
  · have hw : ¬(s.link.state == .active && !s.link.finishing) = true := fun hc => by
      obtain ⟨hact, hfin⟩ := Link.sendsOn_iff.mp hc
      rcases hn with hn | hn
      · exact hn hact
      · exact Bool.eq_false_iff.mp hfin hn
    rw [habandons, if_neg hw, State.settle_ctl_faults, hctl, if_neg hw]
    exact ⟨rfl, hfaults⟩

/-! ### The link's timers (R117, R118, R122) -/

theorem Controller.recordState_makeRecovering {x : Controller} {src : Source} (h : x.recordState src = some .active) :
    (x.makeRecovering src).recordState src = some .recovering := by
  obtain ⟨r, hr, hst⟩ := Option.map_eq_some_iff.mp h
  rw [Controller.recordState, Controller.record_makeRecovering, hr]
  simp [hst]

/-- Settles O47: `State.listenEnd`, `State.quietEnd`, and the two ends of the wake window. -/
theorem linkTimersEnd : Obligations.LinkTimersEnd := by
  refine ⟨fun m b s ht hst hb hle => ?_, fun m b s ht hst hl hb hle => ?_, fun m s ht hst hf => ?_, fun m b s ht hst hb hle => ?_⟩
  · have hd : ((s.arrive m).link.state == .listenOnly && ranFor (s.arrive m).link.listenTimer (s.arrive m).now (ms 1000)) =
        true := by
      rw [Bool.and_eq_true, beq_iff_eq]
      exact ⟨hst, ranFor_of_le (x := (s.arrive m).link.listenTimer) hb hle⟩
    refine ⟨_, exec_of_due ht hd rfl, ?_⟩
    rw [State.finish_link_listenTimer, State.finish_link_state, State.finish_ctl]
    cases hl : s.link.latched
    · have he : (s.arrive m).listenEnd = ((s.arrive m).setCtl (s.ctl.makeRecovering .link)).setLink s.link.toActive := by
        simp [State.listenEnd, hl]
      rw [he]
      exact ⟨rfl, fun h => Bool.noConfusion h, fun _ => ⟨rfl, State.finish_link_pending rfl (by rw [hst]; decide),
        Controller.recordState_makeRecovering⟩⟩
    · have he : (s.arrive m).listenEnd = (s.arrive m).setLink { s.link with listenTimer := none } := by
        simp [State.listenEnd, hl]
      rw [he]
      exact ⟨rfl, fun _ => ⟨hst, rfl⟩, fun h => Bool.noConfusion h⟩
  · have hd : ((s.arrive m).link.state == .silenced && !(s.arrive m).link.latched && (s.arrive m).link.quiet (s.arrive m).now) =
        true := by
      have hq : ranFor s.link.clashTimer (s.arrive m).now (ms 2000) = true := ranFor_of_le hb hle
      simp [hst, hl, Link.quiet] at hq ⊢
      exact .inr hq
    refine ⟨_, exec_of_due ht hd rfl, ?_⟩
    rw [State.finish_link_state, State.finish_ctl]
    exact ⟨rfl, State.finish_link_pending rfl (by rw [hst]; decide), Controller.recordState_makeRecovering⟩
  · have hd : ((s.arrive m).link.state == .dozing && (s.arrive m).link.inFlight.isNone) = true := by simp [hst, hf]
    refine ⟨_, exec_of_due ht hd rfl, ?_⟩
    rw [State.finish_link_of_idle (st := .waking) rfl (by decide), State.finish_now]
    exact ⟨rfl, rfl, rfl, rfl⟩
  · have hd : ((s.arrive m).link.state == .waking && ranFor (s.arrive m).link.wakeTimer (s.arrive m).now (ms 2000)) = true := by
      rw [Bool.and_eq_true, beq_iff_eq]
      exact ⟨hst, ranFor_of_le (x := (s.arrive m).link.wakeTimer) hb hle⟩
    refine ⟨_, exec_of_due ht hd rfl, ?_⟩
    rw [State.finish_link_of_idle (st := .dozing) rfl (by decide)]
    exact ⟨rfl, rfl, s.link.restart_spec.1⟩

/-! ### Identity clashes (R118) -/

theorem State.receiveState_clash {s : State} {f : BusFrame} {x : StateFrame} (hf : takenState f = some x)
    (hw : s.link.state ≠ .waking) (h1 : 1 ≤ x.station) (h14 : x.station ≤ 14) (hown : x.station = s.loader.station) :
    s.receiveState f = (s.frameEnded f).clash := by
  have hno : ¬(x.station = 0 ∨ x.station = 15 ∨ s.link.state = .waking) := by
    rintro (h | h | h)
    · omega
    · omega
    · exact hw h
  rw [State.receiveState, hf]
  exact (if_neg hno).trans (if_pos hown)

theorem State.receiveState_waking {s : State} {f : BusFrame} {x : StateFrame} (hf : takenState f = some x)
    (hw : s.link.state = .waking) : s.receiveState f = s.frameEnded f := by
  rw [State.receiveState, hf]
  exact if_pos (.inr (.inr hw))

/-- What a clash leaves of a link in ACTIVE or LISTEN_ONLY (R118). -/
theorem State.clash_of_sounding {s : State} (h : s.link.state = .active ∨ s.link.state = .listenOnly) :
    s.clash.link.state = .silenced ∧ s.clash.link.clashTimer = some s.now ∧ s.clash.link.pending = none ∧
      s.clash.link.periodTimer = none ∧
      s.clash.link.listenTimer = (if s.link.state = .active then s.link.listenTimer else none) ∧
      s.clash.ctl = (s.ctl.post s.now .link .clash).1 := by
  obtain ⟨hp, ht, -, -, -⟩ := Link.restart_spec { s.link with clashTimer := some s.now }
  have hkeeps : (Link.restart { s.link with clashTimer := some s.now }).clashTimer = some s.now ∧
      (Link.restart { s.link with clashTimer := some s.now }).listenTimer = s.link.listenTimer := by
    unfold Link.restart
    dsimp only
    split <;> exact ⟨rfl, rfl⟩
  unfold State.clash
  rcases h with h | h <;> rw [h]
  · exact ⟨rfl, hkeeps.1, hp, ht, hkeeps.2, rfl⟩
  · exact ⟨rfl, hkeeps.1, hp, ht, rfl, rfl⟩

/-- Settles O48: the own number is a clash in every state that receives but WAKING. -/
theorem ownNumberHeardIsAClash : Obligations.OwnNumberHeardIsAClash := by
  intro m f x s ht hr hf hown h1 h14
  have hd : ((s.arrive m).link.receivingFrame && (takenState f).isSome) = true := by simp [hr, hf]
  refine ⟨_, exec_of_due ht hd rfl, ?_⟩
  by_cases hw : s.link.state = .waking
  · rw [State.receiveState_waking (s := s.arrive m) hf hw, State.finish_link_of_state (by rfl)]
    exact ⟨by simp, ⟨by simp, by simp, by simp, by simp, by simp⟩, fun h => by simp [hw] at h, fun h => by simp [hw] at h,
      fun _ => ⟨hw, rfl, by rw [State.finish_ctl]; rfl⟩⟩
  · rw [State.receiveState_clash (s := s.arrive m) hf hw h1 h14 hown]
    refine ⟨by simp, ⟨by simp, by simp, by simp, by simp, by simp⟩, fun h => ?_, fun h => ?_, fun h => absurd h hw⟩
    · obtain ⟨hst, hclash, hp, hperiod, hlisten, hctl⟩ := State.clash_of_sounding (s := (s.arrive m).frameEnded f) h
      rw [State.finish_link_of_not_active (by rw [hst]; decide), State.finish_now, State.finish_ctl, State.settle_ctl_record, hctl,
        show Source.link = sourceOf .link from rfl, Controller.post_record]
      exact ⟨hst, hclash.trans (by simp), hp, hperiod, hlisten, rfl⟩
    · have he : ((s.arrive m).frameEnded f).clash =
          ((s.arrive m).frameEnded f).setLink { ((s.arrive m).frameEnded f).link with clashTimer := some (s.arrive m).now } := by
        unfold State.clash
        rw [show ((s.arrive m).frameEnded f).link.state = .silenced from h]
        rfl
      rw [he, State.finish_link_of_state (by rfl), State.finish_now]
      exact ⟨h, rfl, by rw [State.finish_ctl]; rfl⟩

end Sys2Proof.Machine

/-! COMMAND frames and the command queue: decoding, addressing, joining, taking (07, section 7.2; 11, section 11.3). -/

namespace Sys2Proof.Machine

/-! ### Takeable heads and take rows (R132) -/

theorem Mode.takesMode_iff (x : Mode) : x.takesMode = true ↔ x = .parked ∨ x = .transport ∨ x = .sweep ∨ x = .limp := by
  cases x <;> simp [Mode.takesMode]

theorem Mode.ne_standby_of_takesMode {x : Mode} (h : x.takesMode = true) : x ≠ .standby := by
  rintro rfl
  cases h

/-- A MODE command at the head is taken by its own rule. -/
theorem State.head_mode {s : State} {c : Command} {rest : List Command} {code : Byte} (hq : s.ctl.queue = c :: rest)
    (hk : c.kind = .mode code) :
    s.headMode = (if s.ctl.mode.takesMode then some code else none) ∧ s.headOther = none := by
  have hh : s.ctl.head = some (.mode code) := by simp [Controller.head, hq, hk]
  simp [State.headMode, State.headOther, hh]

/-- Any other command at the head is takeable outside STANDBY. -/
theorem State.head_other {s : State} {c : Command} {rest : List Command} (hq : s.ctl.queue = c :: rest)
    (hk : ∀ code, c.kind ≠ .mode code) :
    s.headMode = none ∧ s.headOther = if s.ctl.mode = .standby then none else some c.kind := by
  have hh : s.ctl.head = some c.kind := by simp [Controller.head, hq]
  unfold State.headMode State.headOther
  rw [hh]
  cases hc : c.kind
  case mode code => exact absurd hc (hk code)
  all_goals exact ⟨rfl, rfl⟩

theorem State.takeable_iff (s : State) :
    s.takeable = true ↔
      ∃ c rest, s.ctl.queue = c :: rest ∧ s.ctl.mode ≠ .standby ∧
        ∀ code, c.kind = .mode code →
          s.ctl.mode = .parked ∨ s.ctl.mode = .transport ∨ s.ctl.mode = .sweep ∨ s.ctl.mode = .limp := by
  constructor
  · intro h
    obtain ⟨c, rest, hq⟩ := List.exists_cons_of_ne_nil (State.takeable_queue h)
    refine ⟨c, rest, hq, ?_⟩
    by_cases hk : ∃ code, c.kind = .mode code
    · obtain ⟨code, hk⟩ := hk
      obtain ⟨hm, ho⟩ := State.head_mode hq hk
      have ht : s.ctl.mode.takesMode = true := by
        by_contra hn
        simp [State.takeable, hm, ho, hn] at h
      exact ⟨Mode.ne_standby_of_takesMode ht, fun _ _ => (Mode.takesMode_iff _).mp ht⟩
    · obtain ⟨hm, ho⟩ := State.head_other hq fun code hc => hk ⟨code, hc⟩
      refine ⟨fun hs => ?_, fun code hc => absurd ⟨code, hc⟩ hk⟩
      simp [State.takeable, hm, ho, hs] at h
  · rintro ⟨c, rest, hq, hs, hmode⟩
    by_cases hk : ∃ code, c.kind = .mode code
    · obtain ⟨code, hk⟩ := hk
      obtain ⟨hm, -⟩ := State.head_mode hq hk
      simp [State.takeable, hm, (Mode.takesMode_iff _).mpr (hmode code hk)]
    · obtain ⟨-, ho⟩ := State.head_other hq fun code hc => hk ⟨code, hc⟩
      simp [State.takeable, ho, hs]

/-- The row of a kind of command, at a moment. -/
def takeRow : CmdName → Moment → Instr
  | .direction, m => .direction m
  | .limit, m => .limit m
  | .brush, m => .brush m
  | .spray, m => .spray m
  | .clear, m => .clear m
  | .wake, m => .wake m

theorem takeRow_isTakeRow (k : CmdName) (m : Moment) : isTakeRow (takeRow k m) = true := by
  cases k <;> rfl

theorem takeRow_moment (k : CmdName) (m : Moment) : moment (takeRow k m) = m := by
  cases k <;> rfl

theorem exec_takeRow (k : CmdName) (m : Moment) (s : State) :
    exec (takeRow k m) s = .next (s.takeEvent m fun a => a.headIs k) := by
  cases k <;> rfl

theorem State.takeEvent_of_due {s : State} {m : Moment} {due : State → Bool} (h : due s = true) :
    s.takeEvent m due = (if m.dt = 0 then s.takeOne else s.takeDue).arrive m := by
  simp [State.takeEvent, h]

/-- Every takeable head has its row. -/
theorem exec_row_of_takeable {s : State} (h : s.takeable = true) (m : Moment) :
    ∃ i, isTakeRow i = true ∧ moment i = m ∧
      exec i s = .next ((if m.dt = 0 then s.takeOne else s.takeDue).arrive m) := by
  obtain ⟨hm, -⟩ | ⟨k, hk, -⟩ := State.takeOne_cases h
  · exact ⟨.mode m, rfl, rfl, congrArg _ (State.takeEvent_of_due (due := fun a => a.headMode.isSome) hm)⟩
  · refine ⟨takeRow k m, takeRow_isTakeRow k m, takeRow_moment k m, ?_⟩
    rw [exec_takeRow, State.takeEvent_of_due hk]

/-- An event takes first what is takeable. -/
theorem State.event_takeDue (s : State) (m : Moment) (due : State → Bool) (eff : State → State) :
    (.next (s.event m due eff) : Host.Outcome State Fault Refusal) = .next (s.takeDue.event m due eff) := by
  unfold State.event
  rw [State.takeDue_of_not_takeable s.takeDue_not_takeable]

theorem exec_takeDue {i : Instr} (hr : isReset i = false) (ht : isTakeRow i = false) (s : State) :
    exec i s = exec i s.takeDue := by
  cases i
  case resetAssert => cases hr
  case mode | direction | limit | brush | spray | clear | wake => cases ht
  all_goals exact State.event_takeDue ..

/-! ### COMMAND frames by their layout (R112, R173) -/

theorem decodeKind_nil (kind : Byte) :
    decodeKind kind [] = if kind.toNat = 6 then some .clear else if kind.toNat = 7 then some .wake else none := by
  unfold decodeKind
  generalize kind.toNat = n
  match n with
  | 0 | 1 | 2 | 3 | 4 | 5 | 6 | 7 => rfl
  | n + 8 => rfl

theorem decodeKind_one (kind a : Byte) :
    decodeKind kind [a] =
      if kind.toNat = 1 then some (.mode a) else if kind.toNat = 2 then some (.direction a)
      else if kind.toNat = 4 then some (.brush a) else none := by
  unfold decodeKind
  generalize kind.toNat = n
  match n with
  | 0 | 1 | 2 | 3 | 4 | 5 | 6 | 7 => rfl
  | n + 8 => rfl

theorem decodeKind_two (kind a b : Byte) :
    decodeKind kind [a, b] =
      if kind.toNat = 3 then some (.limit (a.toNat * 256 + b.toNat)) else if kind.toNat = 5 then some (.spray a b) else none := by
  unfold decodeKind
  generalize kind.toNat = n
  match n with
  | 0 | 1 | 2 | 3 | 4 | 5 | 6 | 7 => rfl
  | n + 8 => rfl

theorem decodeKind_more (kind a b d : Byte) (l : List Byte) : decodeKind kind (a :: b :: d :: l) = none := by
  unfold decodeKind
  generalize kind.toNat = n
  match n with
  | 0 | 1 | 2 | 3 | 4 | 5 | 6 | 7 => rfl
  | n + 8 => rfl

theorem decodeKind_eq_some_iff (kind : Byte) (args : List Byte) (k : CmdKind) :
    decodeKind kind args = some k ↔
      (kind.toNat = 1 ∧ ∃ a, args = [a] ∧ k = .mode a) ∨ (kind.toNat = 2 ∧ ∃ a, args = [a] ∧ k = .direction a) ∨
        (kind.toNat = 3 ∧ ∃ a b : Byte, args = [a, b] ∧ k = .limit (a.toNat * 256 + b.toNat)) ∨
        (kind.toNat = 4 ∧ ∃ a, args = [a] ∧ k = .brush a) ∨ (kind.toNat = 5 ∧ ∃ a b, args = [a, b] ∧ k = .spray a b) ∨
        (kind.toNat = 6 ∧ args = [] ∧ k = .clear) ∨ (kind.toNat = 7 ∧ args = [] ∧ k = .wake) := by
  constructor
  · intro h
    match args with
    | [] =>
      rw [decodeKind_nil] at h
      split_ifs at h <;> cases h <;> simp [*]
    | [a] =>
      rw [decodeKind_one] at h
      split_ifs at h <;> cases h <;> simp [*]
    | [a, b] =>
      rw [decodeKind_two] at h
      split_ifs at h <;> cases h <;> simp [*]
    | a :: b :: d :: l =>
      rw [decodeKind_more] at h
      cases h
  · rintro (⟨hk, a, rfl, rfl⟩ | ⟨hk, a, rfl, rfl⟩ | ⟨hk, a, b, rfl, rfl⟩ | ⟨hk, a, rfl, rfl⟩ | ⟨hk, a, b, rfl, rfl⟩ |
      ⟨hk, rfl, rfl⟩ | ⟨hk, rfl, rfl⟩) <;> simp [decodeKind_nil, decodeKind_one, decodeKind_two, hk]

theorem decodeKind_length {kind : Byte} {args : List Byte} {k : CmdKind} (h : decodeKind kind args = some k) : args.length ≤ 2 := by
  obtain ⟨-, a, rfl, -⟩ | ⟨-, a, rfl, -⟩ | ⟨-, a, b, rfl, -⟩ | ⟨-, a, rfl, -⟩ | ⟨-, a, b, rfl, -⟩ | ⟨-, rfl, -⟩ | ⟨-, rfl, -⟩ :=
    (decodeKind_eq_some_iff kind args k).mp h
  all_goals simp

theorem decodeCommand_eq_some_iff (sender : Nat) (payload : List Byte) (mask : Nat) (c : Command) :
    decodeCommand sender payload = some (mask, c) ↔
      c.sender = sender ∧ ∃ high low kind args, payload = high :: low :: kind :: args ∧
        mask = high.toNat * 256 + low.toNat ∧ decodeKind kind args = some c.kind := by
  constructor
  · intro h
    unfold decodeCommand at h
    split at h
    · rename_i high low kind args
      obtain ⟨k, hk, he⟩ := Option.map_eq_some_iff.mp h
      obtain ⟨rfl, rfl⟩ := Prod.mk.inj he
      exact ⟨rfl, high, low, kind, args, rfl, rfl, hk⟩
    · cases h
  · rintro ⟨rfl, high, low, kind, args, rfl, rfl, hk⟩
    simp [decodeCommand, hk, ofWord]

/-- A frame is taken as a COMMAND frame when every check passes on its payload (R112). -/
theorem takenCommand_eq_some_iff (f : BusFrame) (mask : Nat) (c : Command) :
    takenCommand f = some (mask, c) ↔
      f.cls = 0#2 ∧ f.length.toNat = f.payload.length ∧ crcMatches f = true ∧ f.endField = 127#7 ∧
        decodeCommand f.station.toNat f.payload = some (mask, c) := by
  have htaken : takenCommand f = some (mask, c) ↔ frameFate f = .command mask c := by
    unfold takenCommand
    cases frameFate f <;> simp
  rw [htaken]
  constructor
  · intro h
    unfold frameFate at h
    dsimp only at h
    split at h
    · rename_i h0
      split at h
      · rename_i hl
        obtain hbad | ⟨x, hx, hcrc, hend, he⟩ :=
          frameTail_cases f ((decodeCommand f.station.toNat f.payload).map fun (mask, c) => .command mask c)
        · rw [h] at hbad
          rcases hbad with hbad | hbad | hbad <;> cases hbad
        · obtain ⟨⟨mask', c'⟩, hdec, rfl⟩ := Option.map_eq_some_iff.mp hx
          rw [he] at h
          cases h
          exact ⟨h0, hl.2.2, hcrc, hend, hdec⟩
      · cases h
    · split at h
      · split at h
        · obtain hbad | ⟨x, hx, -, -, he⟩ := frameTail_cases f ((decodeState f.station.toNat f.payload).map .state)
          · rw [h] at hbad
            rcases hbad with hbad | hbad | hbad <;> cases hbad
          · obtain ⟨y, -, rfl⟩ := Option.map_eq_some_iff.mp hx
            rw [he] at h
            cases h
        · cases h
      · cases h
  · rintro ⟨h0, hl, hcrc, hend, hdec⟩
    obtain ⟨-, high, low, kind, args, hp, -, hk⟩ := (decodeCommand_eq_some_iff ..).mp hdec
    have hlen : 3 ≤ f.payload.length ∧ f.payload.length ≤ 5 ∧ f.length.toNat = f.payload.length := by
      have := decodeKind_length hk
      refine ⟨?_, ?_, hl⟩ <;> rw [hp] <;> simp only [List.length_cons] <;> omega
    unfold frameFate
    rw [if_pos h0, if_pos hlen, hdec]
    simp [frameTail, hcrc, hend]

theorem addressed_iff (mask n : Nat) : addressed mask n = true ↔ 1 ≤ n ∧ n ≤ 14 ∧ mask / 2 ^ n % 2 = 1 := by
  rw [addressed, Bool.and_eq_true, stationNumber_iff, bitOf, beq_iff_eq, and_assoc]

/-! ### Leaving STANDBY (R130) -/

theorem State.wakeSupply_ctl (s : State) :
    s.wakeSupply.ctl = if s.supplyLow then s.ctl.putRecord .supply .lowSupply .active else s.ctl := by
  unfold State.wakeSupply
  split
  · simp [State.makeSupplyRecord]
  · rfl

theorem State.wakeSupply_keeps (s : State) : s.wakeSupply.link = s.link ∧ s.wakeSupply.conv = s.conv := by
  unfold State.wakeSupply
  split <;> simp

theorem State.leaveStandby_ctl (s : State) : s.leaveStandby.ctl = s.wakeScan.wakeSupply.ctl := by
  rw [State.leaveStandby_eq, (State.linkLeaveStandby_keeps _).2.2.2.2.2.2.2.2.2.2.1]

theorem State.leaveStandby_mode (s : State) :
    s.leaveStandby.ctl.mode = s.ctl.standbyReturn ∧
      s.leaveStandby.ctl.ignitionTimer = if s.pins.ignition then none else some s.now := by
  rw [State.leaveStandby_ctl, State.wakeSupply_ctl]
  split
  · simp only [Controller.putRecord_keeps]
    exact ⟨rfl, rfl⟩
  · exact ⟨rfl, rfl⟩

theorem State.leaveStandby_place (s : State) : s.leaveStandby.conv.place = some .pedalA := by
  rw [State.leaveStandby_eq, (State.linkLeaveStandby_keeps _).2.2.2.2.2.2.2.2.2.2.2.2.1, s.wakeScan.wakeSupply_keeps.2]
  rfl

/-- An unlatched link that dozes or wakes is ACTIVE when the station leaves STANDBY (R123). -/
theorem State.leaveStandby_link {s : State} (h : s.link.state = .dozing ∨ s.link.state = .waking) (hl : s.link.latched = false) :
    s.leaveStandby.link.state = .active := by
  have hk : s.wakeScan.wakeSupply.link = s.link := s.wakeScan.wakeSupply_keeps.1
  rw [State.leaveStandby_eq]
  unfold State.linkLeaveStandby
  rw [hk]
  rcases h with h | h <;> simp [h, hl, Link.toActive]

/-! ### COMMAND_FRAME_RECEIVED (R113, R122, R131) -/

theorem State.receiveCommand_eq {s : State} {f : BusFrame} {mask : Nat} {c : Command} (h : takenCommand f = some (mask, c)) :
    s.receiveCommand f = (s.frameEnded f).handCommand mask c := by
  rw [State.receiveCommand, h]

/-- A command addressed to the station, outside WAKING, goes to the queue. -/
theorem State.handCommand_of_addressed {s : State} {mask : Nat} {c : Command} (ha : addressed mask s.loader.station = true)
    (hw : s.link.state ≠ .waking) : s.handCommand mask c = s.setCtl (s.ctl.enqueue c) := by
  simp [State.handCommand, ha, hw]

theorem State.handCommand_of_wake {s : State} {mask : Nat} {c : Command} (ha : addressed mask s.loader.station = true)
    (hw : s.link.state = .waking) (hk : c.kind = .wake) (hm : s.ctl.mode = .standby) :
    s.handCommand mask c = s.leaveStandby := by
  simp [State.handCommand, ha, hw, hk, hm]

/-- A command for another station, or another than WAKE in WAKING, is not taken. -/
theorem State.handCommand_of_ignored {s : State} {mask : Nat} {c : Command}
    (h : addressed mask s.loader.station = false ∨ (s.link.state = .waking ∧ c.kind ≠ .wake)) : s.handCommand mask c = s := by
  unfold State.handCommand
  rcases h with h | ⟨hw, hk⟩
  · simp [h]
  · simp [hw, hk]

/-- Settles O42: the head of the queue, the COMMAND frames, their targets, and what becomes of one that is taken. -/
theorem commandFramesReachTheQueue : Obligations.CommandFramesReachTheQueue := by
  refine ⟨fun s => ⟨s.takeable_iff, State.takeDue_of_not_takeable, fun h => ⟨State.takeOne_ctl_queue h,
    State.takeDue_of_takeable h, exec_row_of_takeable h⟩, s.takeDue_not_takeable, fun i hr ht => exec_takeDue hr ht s⟩,
    fun f mask c => ?_, addressed_iff, fun m f mask c s ht hr hf => ?_⟩
  · rw [takenCommand_eq_some_iff, decodeCommand_eq_some_iff]
    simp only [decodeKind_eq_some_iff]
    have hcrc : crcMatches f = true ↔ f.crc = crc16 (coveredBits f) := by
      rw [crcMatches, beq_iff_eq, eq_comm]
    rw [hcrc]
  · have hd : ((s.arrive m).link.receivingFrame && (takenCommand f).isSome) = true := by simp [hr, hf]
    refine ⟨_, exec_of_due ht hd rfl, ?_⟩
    rw [State.receiveCommand_eq hf]
    refine ⟨fun ha hw hlen => ?_, fun ha hw hlen => ?_, fun ha hw hk hm => ?_, fun h => ?_⟩
    · rw [State.handCommand_of_addressed (s := (s.arrive m).frameEnded f) ha hw, State.finish_ctl]
      have he : s.ctl.enqueue c = { s.ctl with queue := s.ctl.queue ++ [c] } := if_pos hlen
      rw [State.settle_ctl_queue, State.settle_ctl_overrun, State.settle_ctl_discard, State.setCtl_ctl,
        show ((s.arrive m).frameEnded f).ctl = s.ctl from rfl, he]
      exact ⟨rfl, rfl, rfl⟩
    · rw [State.handCommand_of_addressed (s := (s.arrive m).frameEnded f) ha hw, State.finish_ctl]
      have he : s.ctl.enqueue c = { s.ctl with overrun := true, discard := (s.ctl.discard + 1) % 256 } :=
        if_neg (Nat.not_lt.mpr hlen)
      rw [State.settle_ctl_queue, State.settle_ctl_overrun, State.settle_ctl_discard, State.setCtl_ctl,
        show ((s.arrive m).frameEnded f).ctl = s.ctl from rfl, he]
      exact ⟨rfl, rfl, rfl⟩
    · rw [State.handCommand_of_wake (s := (s.arrive m).frameEnded f) ha hw hk hm, State.finish_ctl, State.finish_conv,
        State.finish_link_state]
      refine ⟨?_, State.leaveStandby_place _, fun hl => ?_⟩
      · rw [State.settle_ctl_mode, (State.leaveStandby_mode _).1]
        rfl
      have hact := State.leaveStandby_link (s := (s.arrive m).frameEnded f) (.inr hw) hl
      exact ⟨hact, State.finish_link_pending hact (by rw [hw]; decide)⟩
    · rw [State.handCommand_of_ignored (s := (s.arrive m).frameEnded f) h, State.finish_ctl]
      exact ⟨rfl, rfl, rfl, ⟨by simp, by simp, by simp, by simp, by simp⟩, by simp⟩

end Sys2Proof.Machine

/-! The taking of MODE and of the operator's settings (07, sections 7.1 and 7.2). -/

namespace Sys2Proof.Machine

/-! ### A take that stands alone -/

theorem CmdKind.ne_mode_of_isNamed {k : CmdKind} {n : CmdName} (h : k.isNamed n = true) (code : Byte) : k ≠ .mode code := by
  rintro rfl
  cases n <;> cases h

/-- MODE takes its head alone. -/
theorem exec_mode_alone {s : State} {m : Moment} {c : Command} {rest : List Command} {code : Byte} (ha : s.takesAlone m)
    (hq : s.ctl.queue = c :: rest) (hk : c.kind = .mode code) (hm : s.ctl.mode.takesMode = true) :
    exec (.mode m) s = .next (((s.popped.takeMode code).finish s.link.state).arrive m) := by
  obtain ⟨hh, -⟩ := State.head_mode hq hk
  rw [if_pos hm] at hh
  have hd : s.headMode.isSome = true := by rw [hh]; rfl
  have he : s.takeOne = (s.popped.takeMode code).finish s.link.state := by simp [State.takeOne, State.takeHeadMode, hh]
  rw [← he]
  exact congrArg _ (State.takeEvent_alone (due := fun a => a.headMode.isSome) hd (State.headMode_takeable s hd) ha)

/-- The row of another kind of command takes its head alone. -/
theorem exec_takeRow_alone {s : State} {m : Moment} {c : Command} {rest : List Command} {k : CmdName} (ha : s.takesAlone m)
    (hq : s.ctl.queue = c :: rest) (hk : c.kind.isNamed k = true) (hm : s.ctl.mode ≠ .standby) :
    exec (takeRow k m) s = .next (((s.popped.takeOther c.kind).finish s.link.state).arrive m) := by
  obtain ⟨h1, h2⟩ := State.head_other hq (CmdKind.ne_mode_of_isNamed hk)
  rw [if_neg hm] at h2
  have hd : s.headIs k = true := by simp [State.headIs, h2, hk]
  have he : s.takeOne = (s.popped.takeOther c.kind).finish s.link.state := by
    simp [State.takeOne, State.takeHead, h1, h2]
  rw [← he, exec_takeRow, State.takeEvent_alone hd (State.headIs_takeable s hd) ha]

/-! ### MODE (R127) -/

theorem modeNamed_eq (code : Byte) :
    modeNamed code =
      if code.toNat = 2 then some .parked else if code.toNat = 3 then some .transport
      else if code.toNat = 4 then some .sweep else if code.toNat = 8 then some .standby else none := by
  unfold modeNamed
  generalize code.toNat = n
  match n with
  | 0 | 1 | 2 | 3 | 4 | 5 | 6 | 7 | 8 => rfl
  | n + 9 => simp

/-- The mode after a MODE command with this argument (R127). -/
def Mode.commanded (x : Mode) (code : Byte) : Mode := ((modeNamed code).bind (modeMove x)).getD x

theorem State.takeMode_eq (s : State) (code : Byte) :
    s.takeMode code = ((modeNamed code).bind (modeMove s.ctl.mode)).elim s s.enterMode := by
  unfold State.takeMode
  cases (modeNamed code).bind (modeMove s.ctl.mode) <;> rfl

theorem State.takeMode_ctl (s : State) (code : Byte) :
    (s.takeMode code).ctl.mode = s.ctl.mode.commanded code ∧ (s.takeMode code).ctl.faults = s.ctl.faults := by
  rw [State.takeMode_eq, Mode.commanded]
  cases (modeNamed code).bind (modeMove s.ctl.mode) <;> exact ⟨rfl, rfl⟩

/-- Settles O52: a MODE command moves the mode by the table of R127. -/
theorem modeCommandMovesByTheTable : Obligations.ModeCommandMovesByTheTable := by
  intro m code from_ rest s ha hq hm
  refine ⟨_, exec_mode_alone ha hq rfl ((Mode.takesMode_iff _).mpr hm), ?_⟩
  generalize ht : ((s.popped.takeMode code).finish s.link.state).arrive m = t
  have hmode : t.ctl.mode = s.ctl.mode.commanded code := by
    rw [← ht]
    exact (congrArg Controller.mode (State.finish_ctl ..)).trans (s.popped.takeMode_ctl code).1
  have hfaults : t.ctl.faults = s.ctl.faults := by
    rw [← ht]
    exact (congrArg Controller.faults (State.finish_ctl ..)).trans (s.popped.takeMode_ctl code).2
  have hqueue : t.ctl.queue = rest := by
    rw [← ht]
    exact (State.finish_ctl_queue ..).trans (by simp [hq])
  have hchan : SameChannels s t := by
    rw [← ht]
    constructor
    · exact (State.finish_drive ..).trans (by simp)
    · exact (State.finish_brush0 ..).trans (by simp)
    · exact (State.finish_brush1 ..).trans (by simp)
    · exact (State.finish_ration ..).trans (by simp)
    · exact (State.finish_spray ..).trans (by simp)
  have hname := modeNamed_eq code
  rw [hmode]
  refine ⟨hqueue, hchan, hfaults, fun h => ?_, fun h2 h3 h4 h8 => ?_, fun hl h8 => ?_, fun h => ?_, fun h => ?_, fun h => ?_⟩
  · rw [h]
    unfold Mode.commanded
    cases modeNamed code <;> rfl
  · simp [Mode.commanded, hname, h2, h3, h4, h8]
  · rcases hm with h | h | h | h
    case inr.inr.inr => exact absurd h hl
    all_goals simp [Mode.commanded, hname, h8, h, modeMove]
  all_goals
    rw [h]
    refine ⟨fun hc => ?_, fun hc => ?_, fun hc => ?_⟩ <;> simp [Mode.commanded, hname, hc, modeMove]

/-! ### The operator's settings (R133) -/

theorem directionNamed_eq (code : Byte) (held : Dir) :
    directionNamed code held =
      if code.toNat = 0 then .neutral else if code.toNat = 1 then .fwd else if code.toNat = 2 then .rev else held := by
  unfold directionNamed
  generalize code.toNat = n
  match n with
  | 0 | 1 | 2 => rfl
  | n + 3 => simp

/-- What the taking of a setting leaves: the queue without its head, the mode, the fault list, the channels and the blocks. -/
structure State.TookSetting (s t : State) (rest : List Command) : Prop where
  queue : t.ctl.queue = rest
  mode : t.ctl.mode = s.ctl.mode
  faults : t.ctl.faults = s.ctl.faults
  channels : SameChannels s t
  blocks : SameBlocks s t
  supply : t.out.supply = s.out.supply

theorem State.sameChannels_finish_setCtl (s : State) (x : Controller) (b : LinkState) :
    SameChannels s ((s.setCtl x).finish b) :=
  ⟨State.finish_drive .., State.finish_brush0 .., State.finish_brush1 .., State.finish_ration .., State.finish_spray ..⟩

theorem State.sameBlocks_finish_setCtl (s : State) (x : Controller) :
    SameBlocks s ((s.setCtl x).finish s.link.state) :=
  ⟨State.finish_loader .., State.finish_tableOwn .., State.finish_peers .., State.finish_link_of_state (by rfl),
    State.finish_capture .., State.finish_conv ..⟩

theorem SameChannels.arrive {s t : State} (h : SameChannels s t) (m : Moment) : SameChannels s (t.arrive m) :=
  ⟨h.drive, h.brush0, h.brush1, h.ration, h.spray⟩

theorem SameBlocks.arrive {s t : State} (h : SameBlocks s t) (m : Moment) : SameBlocks s (t.arrive m) :=
  ⟨h.loader, h.tableOwn, h.peers, h.link, h.capture, h.conv⟩

/-- A setting that changes the mode controller's settings alone is taken with nothing else changed. -/
theorem State.tookSetting_of_setCtl {s : State} {rest : List Command} {x : Controller} (hq : x.queue = rest)
    (hm : x.mode = s.ctl.mode) (hf : x.faults = s.ctl.faults) (m : Moment) :
    s.TookSetting (((s.setCtl x).finish s.link.state).arrive m) rest := by
  refine ⟨?_, ?_, ?_, (s.sameChannels_finish_setCtl _ _).arrive m, (s.sameBlocks_finish_setCtl _).arrive m, ?_⟩
  · exact (State.finish_ctl_queue ..).trans hq
  · exact (congrArg Controller.mode (State.finish_ctl ..)).trans hm
  · exact (congrArg Controller.faults (State.finish_ctl ..)).trans hf
  · exact (congrArg Outputs.supply (State.finish_out ..)).trans rfl

/-- The mode controller after a setting taken: as the setting leaves it, with the figures that follow. -/
theorem State.ctl_of_setCtl (s : State) (x : Controller) (b : LinkState) (m : Moment) :
    (((s.setCtl x).finish b).arrive m).ctl = (s.setCtl x).settle.ctl := State.finish_ctl ..

theorem State.settle_ownCap_le_limit (s : State) : s.settle.ctl.ownCap ≤ s.ctl.limit := by
  rw [State.settle_ctl_eq]
  dsimp only
  split
  · exact Nat.zero_le _
  · exact (least_le (List.mem_cons_self ..)).trans (Nat.min_le_right _ _)

theorem bitOf_eq_true (v n : Nat) : bitOf v n = true ↔ v / 2 ^ n % 2 = 1 := by
  rw [bitOf, beq_iff_eq]

/-- Settles O53: each setting replaces its own figures of the mode controller and nothing else. -/
theorem settingCommandsAreTaken : Obligations.SettingCommandsAreTaken := by
  intro m from_ k rest s ha hq hm
  have took (n : CmdName) (hn : k.isNamed n = true) {x : Controller} (hx : s.popped.takeOther k = s.setCtl x)
      {P : State → Prop} (hxq : x.queue = s.ctl.queue.drop 1) (hxm : x.mode = s.ctl.mode) (hxf : x.faults = s.ctl.faults)
      (hp : P (((s.setCtl x).finish s.link.state).arrive m)) :
      ∃ t, exec (takeRow n m) s = .next t ∧ t.ctl.queue = rest ∧ t.ctl.mode = s.ctl.mode ∧ t.ctl.faults = s.ctl.faults ∧
        SameChannels s t ∧ SameBlocks s t ∧ t.out.supply = s.out.supply ∧ P t := by
    have ht := State.tookSetting_of_setCtl (s := s) (rest := rest) (by rw [hxq, hq]; rfl) hxm hxf m
    refine ⟨_, ?_, ht.queue, ht.mode, ht.faults, ht.channels, ht.blocks, ht.supply, hp⟩
    rw [exec_takeRow_alone ha hq hn hm, hx]
  refine ⟨fun code hc => ?_, fun v hc => ?_, fun mask hc => ?_, fun on rate hc => ?_, fun hc => ?_⟩ <;> subst hc
  · refine took .direction rfl (x := { s.ctl.pop with requested := directionNamed code s.ctl.requested }) rfl rfl rfl rfl ?_
    rw [State.ctl_of_setCtl]
    exact ⟨directionNamed_eq _ _, rfl, rfl, rfl, rfl, rfl⟩
  · refine took .limit rfl (x := { s.ctl.pop with limit := min v 4000 }) rfl rfl rfl rfl ?_
    rw [State.ctl_of_setCtl]
    exact ⟨rfl, State.settle_ownCap_le_limit _, rfl, rfl, rfl, rfl, rfl⟩
  · refine took .brush rfl (x := { s.ctl.pop with select0 := bitOf mask.toNat 0, select1 := bitOf mask.toNat 1 }) rfl rfl rfl
      rfl ?_
    rw [State.ctl_of_setCtl]
    refine ⟨(bitOf_eq_true _ _).trans ?_, (bitOf_eq_true _ _).trans ?_, rfl, rfl, rfl, rfl⟩
    · rw [Nat.pow_zero, Nat.div_one]
    · rw [Nat.pow_one]
  · refine took .spray rfl (x := { s.ctl.pop with sprayOn := bitOf on.toNat 0, sprayRate := clampNat 5 100 rate.toNat }) rfl
      rfl rfl rfl ?_
    rw [State.ctl_of_setCtl]
    refine ⟨(bitOf_eq_true _ _).trans ?_, rfl, rfl, rfl, rfl, rfl⟩
    rw [Nat.pow_zero, Nat.div_one]
  · refine took .wake rfl (x := s.ctl.pop) rfl rfl rfl rfl ?_
    rw [State.ctl_of_setCtl]
    exact ⟨rfl, rfl, rfl, rfl, rfl, rfl⟩

end Sys2Proof.Machine

/-! The mode check: its timings, its conditions and the changes of mode, the entry to STANDBY among them (07, section 7.1). -/

namespace Sys2Proof.Machine

/-! ### What a mode check finds (R125 to R130) -/

theorem ranFor_none (now d : Micros) : ranFor none now d = false := rfl

theorem State.ignitionTiming_of_high {s : State} (h : s.pins.ignition = true) : s.ignitionTiming = none := by
  simp [State.ignitionTiming, runWhile, h]

theorem State.ignitionTiming_of_untimed {s : State} (h : s.ctl.mode.timesIgnition = false) : s.ignitionTiming = none := by
  simp [State.ignitionTiming, runWhile, h]

theorem State.restTiming_of_mode {s : State} (h : s.ctl.mode ≠ .standby) :
    s.restTiming = if s.atRest = true then some (s.ctl.restTimer.getD s.now) else none := by
  simp [State.restTiming, runWhile, h]

theorem State.modeCause_of_standby {s : State} (hm : s.ctl.mode = .standby) (hi : s.pins.ignition = true) :
    s.modeCause = .standbyExit := by
  simp [State.modeCause, hm, hi]

/-- The ignition timer is tested first (log 23). -/
theorem State.modeCause_of_ignition {s : State} (hm : s.ctl.mode ≠ .standby)
    (h : ranFor s.ignitionTiming s.now (ms 2000) = true) : s.modeCause = .ignitionEnd := by
  simp [State.modeCause, hm, h]

theorem State.modeCause_of_warmup {s : State} (hm : s.ctl.mode = .warmup) (hi : s.ignitionTiming = none)
    (h : ranFor s.ctl.warmupTimer s.now (ms s.cfg.general.warmup) = true) : s.modeCause = .warmupEnd := by
  simp [State.modeCause, hm, hi, h, ranFor_none]

theorem State.modeCause_of_stowing {s : State} (hm : s.ctl.mode = .stowing) (hi : s.ignitionTiming = none)
    (h : s.brushesFinished = true) : s.modeCause = .stowingDone := by
  simp [State.modeCause, hm, hi, h, ranFor_none]

theorem State.modeCause_of_rest {s : State} (hm : s.ctl.mode = .parking ∨ s.ctl.mode = .shutdown) (hi : s.ignitionTiming = none)
    (hf : s.brushesFinished = true) (h : ranFor s.restTiming s.now (ms 1000) = true) : s.modeCause = .restEnd := by
  rcases hm with hm | hm <;> simp [State.modeCause, hm, hi, hf, h, ranFor_none]

/-- The modes that wait for no condition of their own. -/
theorem State.modeCause_of_waiting {s : State}
    (hm : s.ctl.mode = .parked ∨ s.ctl.mode = .transport ∨ s.ctl.mode = .sweep ∨ s.ctl.mode = .limp)
    (hi : s.ignitionTiming = none) : s.modeCause = .none := by
  rcases hm with hm | hm | hm | hm <;> simp [State.modeCause, hm, hi, ranFor_none]

/-! ### What a mode check does -/

/-- The state with the timings of this check taken. -/
def State.timed (s : State) : State :=
  s.setCtl { s.ctl with ignitionTimer := s.ignitionTiming, restTimer := s.restTiming }

theorem State.modeCheck_of_none {s : State} (h : s.modeCause = .none) : s.modeCheck = s.timed := by
  unfold State.modeCheck; rw [h]; rfl

theorem State.modeCheck_of_standbyExit {s : State} (h : s.modeCause = .standbyExit) : s.modeCheck = s.leaveStandby := by
  unfold State.modeCheck; rw [h]

theorem State.modeCheck_of_ignitionEnd {s : State} (h : s.modeCause = .ignitionEnd) :
    s.modeCheck = if s.ctl.mode = .limp then s.timed.enterStandby else s.timed.enterMode .shutdown := by
  unfold State.modeCheck; rw [h]; rfl

theorem State.modeCheck_of_warmupEnd {s : State} (h : s.modeCause = .warmupEnd) : s.modeCheck = s.timed.enterMode .parked := by
  unfold State.modeCheck; rw [h]; rfl

theorem State.modeCheck_of_stowingDone {s : State} (h : s.modeCause = .stowingDone) :
    s.modeCheck = s.timed.enterMode .transport := by
  unfold State.modeCheck; rw [h]; rfl

theorem State.modeCheck_of_restEnd {s : State} (h : s.modeCause = .restEnd) :
    s.modeCheck =
      if s.ctl.mode = .parking then s.timed.enterMode .parked
      else if s.pins.ignition then s.timed.enterMode .warmup else s.timed.enterStandby := by
  unfold State.modeCheck; rw [h]; rfl

/-- STANDBY entry: the mode controller's own part on what the channels leave (R130). -/
theorem State.enterStandby_ctl (s : State) : s.enterStandby.ctl = s.channelsStandby.ctl.standby := by
  unfold State.enterStandby; simp

/-! ### Leaving STANDBY -/

theorem State.driveSupplyStart_state_ne (s : State) : s.driveSupplyStart.drive.state ≠ .standstill := by
  unfold State.driveSupplyStart
  split
  · nofun
  · rename_i h
    intro hs
    rw [hs] at h
    exact h rfl

/-- A SUPPLY condition that stands holds the drive as the station leaves STANDBY (R163). -/
theorem State.leaveStandby_supply {s : State} (h : s.supplyLow = true) :
    s.leaveStandby.ctl.recordState .supply = some .active ∧ s.leaveStandby.drive.state ≠ .standstill := by
  have hl : s.wakeScan.supplyLow = true := h
  constructor
  · rw [State.leaveStandby_ctl, State.wakeSupply_ctl, if_pos hl, Controller.recordState, Controller.record_putRecord, if_pos rfl]
    rfl
  · have hd : s.leaveStandby.drive = s.wakeScan.driveSupplyStart.drive := by
      rw [State.leaveStandby_eq, State.wakeSupply, if_pos hl]
      simp [State.startNotices]
    rw [hd]
    exact State.driveSupplyStart_state_ne _

/-! ### The rows of the mode check -/

theorem exec_modeCheck {s : State} (m : Moment) (ht : s.takeable = false) (hd : s.loader.state = .done) :
    exec (.modeCheck m) s = .next ((s.arrive m).modeCheck.finish s.link.state) :=
  exec_of_due ht (due := State.checks) (by simpa [State.checks, State.loaded] using hd) rfl

theorem State.checks_and {s : State} {x : ModeCause} (hd : s.loader.state = .done) (h : s.modeCause = x) :
    (s.checks && s.modeCause == x) = true := by
  simp [State.checks, State.loaded, hd, h]

/-- Settles O49: the mode check by the condition of the mode in which it runs. -/
theorem modeCheckMovesTheStation : Obligations.ModeCheckMovesTheStation := by
  refine ⟨fun m s ht hd hm hf hi => ?_, fun m s ht hd hm hi => ?_, fun m s b ht hd hm hb hle hi => ?_⟩
  · refine ⟨_, exec_modeCheck m ht hd, ?_⟩
    rw [State.modeCheck_of_stowingDone
      (State.modeCause_of_stowing (s := s.arrive m) hm (State.ignitionTiming_of_high hi) hf), State.finish_ctl]
    refine ⟨rfl, ⟨?_, ?_, ?_, ?_, ?_⟩, rfl⟩
    · exact State.finish_drive ..
    · exact State.finish_brush0 ..
    · exact State.finish_brush1 ..
    · exact State.finish_ration ..
    · exact State.finish_spray ..
  · refine ⟨_, exec_modeCheck m ht hd, ?_⟩
    rw [State.modeCheck_of_standbyExit (State.modeCause_of_standby (s := s.arrive m) hm hi)]
    have hmode := State.leaveStandby_mode (s.arrive m)
    refine ⟨?_, ?_, ?_, fun hl hlat => ?_, fun hs => ?_⟩
    · rw [State.finish_ctl, State.settle_ctl_mode, hmode.1]
      rfl
    · rw [State.finish_ctl, State.settle_ctl_ignitionTimer, hmode.2]
      exact if_pos hi
    · rw [State.finish_conv, State.leaveStandby_place]
    · have ha := State.leaveStandby_link (s := s.arrive m) (.inl hl) hlat
      exact ⟨by rw [State.finish_link_state, ha], State.finish_link_pending ha (by rw [hl]; nofun)⟩
    · obtain ⟨hrec, hdrv⟩ := State.leaveStandby_supply (s := s.arrive m) hs
      exact ⟨by rw [State.finish_ctl, State.settle_ctl_recordState, hrec], by rw [State.finish_drive]; exact hdrv⟩
  · have hc : (s.arrive m).modeCause = .warmupEnd :=
      State.modeCause_of_warmup hm (State.ignitionTiming_of_high hi) (ranFor_of_le hb hle)
    refine ⟨_, exec_of_due ht (State.checks_and (s := s.arrive m) hd hc) rfl, ?_⟩
    rw [State.modeCheck_of_warmupEnd hc, State.finish_ctl, State.finish_out]
    refine ⟨rfl, rfl, fun hs => ?_, rfl⟩
    exact hs

/-- Settles O50: the rest timer while the machine is at rest, its end, and the end of the ignition timer. -/
theorem restAndIgnitionTimersEnd : Obligations.RestAndIgnitionTimersEnd := by
  refine ⟨fun m s ht hd hm hi => ?_, fun m s b ht hd hm hf hr hb hle hig => ?_, fun m s b ht hd hm hi hb hle => ?_⟩
  · refine ⟨_, exec_modeCheck m ht hd, ?_⟩
    rw [State.modeCheck_of_none (State.modeCause_of_waiting (s := s.arrive m) hm (State.ignitionTiming_of_high hi)),
      State.finish_ctl, State.finish_now]
    have hne : (s.arrive m).ctl.mode ≠ .standby := by
      show s.ctl.mode ≠ .standby
      rcases hm with h | h | h | h <;> rw [h] <;> nofun
    exact ⟨rfl, State.ignitionTiming_of_high (s := s.arrive m) hi, State.restTiming_of_mode hne⟩
  · have hne : (s.arrive m).ctl.mode ≠ .standby := by
      show s.ctl.mode ≠ .standby
      rcases hm with h | h <;> rw [h] <;> nofun
    have hign : (s.arrive m).ignitionTiming = none := by
      rcases hm with h | h
      · exact State.ignitionTiming_of_high (hig h)
      · exact State.ignitionTiming_of_untimed (show s.ctl.mode.timesIgnition = false by rw [h]; rfl)
    have htime : (s.arrive m).restTiming = some b := by
      rw [State.restTiming_of_mode hne, if_pos (show (s.arrive m).atRest = true from hr)]
      show some (s.ctl.restTimer.getD _) = _
      rw [hb]
      rfl
    have hc : (s.arrive m).modeCause = .restEnd := State.modeCause_of_rest hm hign hf (ranFor_of_le htime hle)
    refine ⟨_, exec_of_due ht (State.checks_and (s := s.arrive m) hd hc) rfl, ?_⟩
    rw [State.modeCheck_of_restEnd hc, State.finish_ctl, State.settle_ctl_mode]
    have hp : (s.arrive m).ctl.mode = s.ctl.mode := rfl
    have hq : (s.arrive m).pins.ignition = m.pins.ignition := rfl
    rw [hp, hq]
    split_ifs
    · rfl
    · rfl
    · rw [State.enterStandby_ctl]
      rfl
  · have hne : (s.arrive m).ctl.mode ≠ .standby := by
      intro h
      rw [show s.ctl.mode = .standby from h] at hm
      cases hm
    have htime : (s.arrive m).ignitionTiming = some b := by
      show runWhile (!m.pins.ignition && s.ctl.mode.timesIgnition) s.ctl.ignitionTimer _ = _
      rw [hi, hm, hb]
      rfl
    have hc : (s.arrive m).modeCause = .ignitionEnd := State.modeCause_of_ignition hne (ranFor_of_le htime hle)
    refine ⟨_, exec_of_due ht (State.checks_and (s := s.arrive m) hd hc) rfl, ?_⟩
    rw [State.modeCheck_of_ignitionEnd hc, State.finish_ctl, State.settle_ctl_mode, State.settle_ctl_ignitionTimer]
    have hp : (s.arrive m).ctl.mode = s.ctl.mode := rfl
    rw [hp]
    split_ifs
    · rw [State.enterStandby_ctl]
      exact ⟨rfl, rfl⟩
    · exact ⟨rfl, rfl⟩

end Sys2Proof.Machine

/-! STANDBY entry: what every block's STANDBY path leaves (07, sections 7.1 and 7.4). -/

namespace Sys2Proof.Machine

/-! ### The fault list and the counts (R138) -/

theorem Controller.mem_of_record {x : Controller} {src : Source} {r : Record} (h : x.record src = some r) :
    r ∈ x.faults ∧ r.source = src :=
  ⟨List.mem_of_find?_eq_some h, by simpa using List.find?_some h⟩

/-- With one record per source, a member of the fault list is its source's record. -/
theorem Controller.eq_of_source {x : Controller} (h : (x.faults.map Record.source).Nodup) {r r' : Record} (hr : r ∈ x.faults)
    (hr' : r' ∈ x.faults) (hs : r.source = r'.source) : r = r' :=
  List.inj_on_of_nodup_map h hr hr' hs

/-- STANDBY entry keeps a source's record where it is LATCHED. -/
theorem Controller.keptLatched_record_isNone {x : Controller} (h : (x.faults.map Record.source).Nodup) (src : Source) :
    (x.keptLatched.record src).isNone = true ↔ x.recordState src ≠ some .latched := by
  constructor
  · intro hn hl
    obtain ⟨r, hr, -⟩ := Controller.recordState_eq_some_iff.mp (Controller.keptLatched_recordState hl)
    rw [hr] at hn
    cases hn
  · intro hl
    rw [Option.isNone_iff_eq_none]
    by_contra hn
    obtain ⟨r, hr⟩ := Option.ne_none_iff_exists'.mp hn
    obtain ⟨hmem, hsrc⟩ := Controller.mem_of_record hr
    obtain ⟨hmem, hst⟩ := List.mem_filter.mp hmem
    refine hl (Controller.recordState_eq_some_iff.mpr ?_)
    cases hx : x.record src with
    | none =>
      have := List.find?_eq_none.mp hx r hmem
      simp [hsrc] at this
    | some r' =>
      obtain ⟨hmem', hsrc'⟩ := Controller.mem_of_record hx
      rw [Controller.eq_of_source h hmem' hmem (hsrc'.trans hsrc.symm)]
      exact ⟨r, rfl, by simpa using hst⟩

theorem Controller.standby_count {x : Controller} (h : (x.faults.map Record.source).Nodup) (k : Counted) :
    (x.standby.recovery k).count = if x.recordState (sourceOf k) = some .latched then (x.recovery k).count else 0 := by
  have hr : x.standby.recovery k = x.standbyFaults.recovery k := by cases k <;> rfl
  rw [hr, Controller.standbyFaults_recovery]
  by_cases hl : x.recordState (sourceOf k) = some .latched
  · rw [if_pos hl, if_neg fun hn => (Controller.keptLatched_record_isNone h _).mp hn hl]
  · rw [if_neg hl, if_pos ((Controller.keptLatched_record_isNone h _).mpr hl)]

/-- The mode controller's own part of STANDBY entry: what it keeps and what it empties (R130, R138). -/
theorem Controller.standby_fields (x : Controller) :
    x.standby.mode = .standby ∧ x.standby.queue = [] ∧ x.standby.overrun = false ∧ x.standby.requested = .neutral ∧
      x.standby.select0 = false ∧ x.standby.select1 = false ∧ x.standby.sprayOn = false ∧ x.standby.limit = x.limit ∧
      x.standby.sprayRate = x.sprayRate ∧ x.standby.contrib = x.contrib := by
  unfold Controller.standby
  rw [x.standbyFaults_spec]
  exact ⟨rfl, rfl, rfl, rfl, rfl, rfl, rfl, rfl, rfl, rfl⟩

/-! ### The channels (R25, R54, R69, R90) -/

theorem State.driveStandby_state (s : State) :
    s.driveStandby.drive.state =
      if s.drive.state = .disabled ∨ s.drive.state = .yielded ∨ s.drive.state = .latched then s.drive.state else .standstill := by
  unfold State.driveStandby
  cases h : s.drive.state <;> simp [h, State.syncBoost, State.driveOff, State.writeDriveCoils, State.setPark]

/-- A brush channel as its STANDBY path leaves it (R54). -/
def Brush.standby (b : Brush) : Brush :=
  { b.motorOff with
    starved := false
    state := if b.state = .latched ∨ b.state = .disabled then b.state else .stowed }

theorem State.brushStandby_brush (s : State) (c : Chan) : (s.brushStandby c).brush c = (s.brush c).standby := by
  obtain ⟨_, _, _, _, b0, b1, _⟩ := s
  obtain ⟨st0, _⟩ := b0
  obtain ⟨st1, _⟩ := b1
  cases c
  · cases st0 <;> rfl
  · cases st1 <;> rfl

theorem State.brushStandby_out (s : State) (c : Chan) : (s.brushStandby c).out = s.out.driveArm c (s.brush c).standby := by
  rw [← State.brushStandby_brush]
  cases c <;> rfl

theorem Brush.standby_lifting (b : Brush) : b.standby.lifting = false := by
  unfold Brush.lifting Brush.standby
  dsimp only
  split
  · rename_i h
    rcases h with h | h <;> simp [h]
  · rfl

theorem Brush.standby_working (b : Brush) : b.standby.state.working = false := by
  unfold Brush.standby
  dsimp only
  split
  · rename_i h
    rcases h with h | h <;> simp [h, BrushState.working]
  · rfl

/-- The channels at STANDBY entry, each on its own path. -/
theorem State.channelsStandby_brush (s : State) (c : Chan) : s.channelsStandby.brush c = (s.brush c).standby := by
  have h0 : s.driveStandby.brush .c0 = s.brush .c0 := rfl
  have h1 : (s.driveStandby.brushStandby .c0).brush .c1 = s.brush .c1 := rfl
  cases c
  · have : s.channelsStandby.brush .c0 = (s.driveStandby.brushStandby .c0).brush .c0 := rfl
    rw [this, State.brushStandby_brush, h0]
  · have : s.channelsStandby.brush .c1 = ((s.driveStandby.brushStandby .c0).brushStandby .c1).brush .c1 := rfl
    rw [this, State.brushStandby_brush, h1]

theorem State.channelsStandby_drive (s : State) : s.channelsStandby.drive = s.driveStandby.drive := rfl

theorem State.channelsStandby_ration (s : State) : s.channelsStandby.ration = Ration.reset := rfl

/-- What the channels leave of the mode controller: their places in the contribution table are withdrawn. -/
theorem State.channelsStandby_ctl (s : State) :
    s.channelsStandby.ctl =
      { s.ctl with
        contrib := { s.ctl.contrib with
          transport0 := none, transport1 := none, afterFault0 := none, afterFault1 := none, ration := none } } := rfl

/-- Both arms, the drive's outputs and the pump are off. -/
theorem State.channelsStandby_armOff (s : State) (c : Chan) : s.channelsStandby.out.armOff c := by
  have hl := (s.brush c).standby_lifting
  have hw := (s.brush c).standby_working
  cases c
  · have ho : s.channelsStandby.out.lift .c0 = (s.driveStandby.brushStandby .c0).out.lift .c0 ∧
        s.channelsStandby.out.float .c0 = (s.driveStandby.brushStandby .c0).out.float .c0 ∧
        (s.channelsStandby.out.coil .brush0).shadow = ((s.driveStandby.brushStandby .c0).out.coil .brush0).shadow :=
      ⟨rfl, rfl, rfl⟩
    obtain ⟨h1, h2, h3⟩ := ho
    refine ⟨h1.trans ?_, h2.trans ?_, h3.trans ?_⟩ <;> rw [State.brushStandby_out]
    · exact hl
    · exact hw
    · rfl
  · have ho : s.channelsStandby.out.lift .c1 = ((s.driveStandby.brushStandby .c0).brushStandby .c1).out.lift .c1 ∧
        s.channelsStandby.out.float .c1 = ((s.driveStandby.brushStandby .c0).brushStandby .c1).out.float .c1 ∧
        (s.channelsStandby.out.coil .brush1).shadow =
          (((s.driveStandby.brushStandby .c0).brushStandby .c1).out.coil .brush1).shadow := ⟨rfl, rfl, rfl⟩
    obtain ⟨h1, h2, h3⟩ := ho
    refine ⟨h1.trans ?_, h2.trans ?_, h3.trans ?_⟩ <;> rw [State.brushStandby_out]
    · exact hl
    · exact hw
    · rfl

/-- The spray channel as its STANDBY path leaves it (R90). -/
def Spray.standby (x : Spray) : Spray :=
  { x.closed.stopTimers with
    wanted := [], trim := 0, state := if x.state = .latched ∨ x.state = .disabled then x.state else .off }

theorem State.sprayStandby_spray (s : State) : s.sprayStandby.spray = s.spray.standby := by
  unfold State.sprayStandby State.setSpray Spray.standby
  dsimp only
  cases h : s.spray.state <;> simp

theorem State.channelsStandby_spray (s : State) : s.channelsStandby.spray = s.spray.standby := by
  rw [State.channelsStandby, State.sprayStandby_spray]
  simp

/-! ### STANDBY entry whole -/

theorem State.enterStandby_blocks (s : State) :
    s.enterStandby.drive = s.channelsStandby.drive ∧ s.enterStandby.brush = s.channelsStandby.brush ∧
      s.enterStandby.ration = s.channelsStandby.ration ∧ s.enterStandby.spray = s.channelsStandby.spray ∧
      s.enterStandby.peers = s.peers.map Peer.cleared ∧
      s.enterStandby.capture = { Capture.reset with reverse := s.capture.reverse } ∧
      s.enterStandby.conv.place = none := by
  refine ⟨by simp [State.enterStandby], ?_, by simp [State.enterStandby], by simp [State.enterStandby],
    by simp [State.enterStandby, State.peersStandby], by simp [State.enterStandby, State.captureStandby], rfl⟩
  funext c
  cases c <;> simp [State.enterStandby, State.brush]

/-- Of the output stage, STANDBY entry changes past the channels the supply monitor's timers alone (R163). -/
theorem State.enterStandby_out (s : State) :
    ∃ a b l, s.enterStandby.out = { s.channelsStandby.out with startTimer := a, releaseTimer := b, late := l } := by
  have h : s.enterStandby.out = s.channelsStandby.peersStandby.linkStandby.captureStandby.supplyStandby.out := by
    unfold State.enterStandby; simp
  have hk : s.channelsStandby.peersStandby.linkStandby.captureStandby.out = s.channelsStandby.out := by
    simp [State.peersStandby]
  exact ⟨_, _, _, by rw [h, State.supplyStandby, State.setOut_out, hk]⟩

theorem State.enterStandby_link {s : State} (h : s.link.state = .active) :
    s.enterStandby.link.state = .dozing ∧ s.enterStandby.link.pending = none := by
  have hl : s.enterStandby.link = s.channelsStandby.peersStandby.linkStandby.link := by unfold State.enterStandby; simp
  have hk : s.channelsStandby.peersStandby.link = s.link := by simp [State.peersStandby]
  rw [hl]
  unfold State.linkStandby
  rw [hk, h]
  exact ⟨rfl, (Link.restart_spec s.link).1⟩

/-- The contributions after STANDBY entry (R25, R54, R69, R90). -/
theorem State.enterStandby_contributions (s : State) :
    (∀ c, s.enterStandby.contributions.overrunOf c = none ∧ s.enterStandby.contributions.transportOf c = none ∧
      s.enterStandby.contributions.afterFaultOf c = none) ∧
      s.enterStandby.contributions.ration = none ∧
      (s.spray.state ≠ .latched → s.enterStandby.contributions.dust = none) := by
  obtain ⟨-, hbrush, -, hspray, -⟩ := s.enterStandby_blocks
  have hctl : s.enterStandby.ctl.contrib = s.channelsStandby.ctl.contrib := by
    rw [State.enterStandby_ctl]
    exact s.channelsStandby.ctl.standby_fields.2.2.2.2.2.2.2.2.2
  rw [State.channelsStandby_ctl] at hctl
  have h0 : s.enterStandby.brush0.overrun = false := by
    have h : s.enterStandby.brush .c0 = (s.brush .c0).standby := by rw [hbrush, State.channelsStandby_brush]
    exact congrArg Brush.overrun h
  have h1 : s.enterStandby.brush1.overrun = false := by
    have h : s.enterStandby.brush .c1 = (s.brush .c1).standby := by rw [hbrush, State.channelsStandby_brush]
    exact congrArg Brush.overrun h
  have hx : s.enterStandby.spray.state = s.spray.standby.state := by rw [hspray, State.channelsStandby_spray]
  unfold State.contributions
  refine ⟨fun c => ?_, by rw [hctl], fun hn => ?_⟩
  · rw [hctl]
    cases c
    · exact ⟨by simp [Contributions.overrunOf, h0], rfl, rfl⟩
    · exact ⟨by simp [Contributions.overrunOf, h1], rfl, rfl⟩
  · have hd : s.enterStandby.dustStands = false := by
      rw [State.dustStands, hx, Spray.standby]
      dsimp only
      split
      · rename_i h
        rw [h.resolve_left hn]
        rfl
      · rfl
    simp [hd]

/-- The end of the rest timer in SHUTDOWN with the ignition low is the STANDBY entry. -/
theorem exec_standbyEntry {m : Moment} {s : State} {b : Micros} (ht : s.takeable = false) (hd : s.loader.state = .done)
    (hm : s.ctl.mode = .shutdown) (hf : s.brushesFinished = true) (hr : s.atRest = true) (hb : s.ctl.restTimer = some b)
    (hle : b + 1000000 ≤ s.now + m.dt) (hi : m.pins.ignition = false) :
    exec (.restTimerEnd m) s = .next ((s.arrive m).timed.enterStandby.finish s.link.state) := by
  have hma : (s.arrive m).ctl.mode = .shutdown := hm
  have hia : (s.arrive m).pins.ignition = false := hi
  have htime : (s.arrive m).restTiming = some b := by
    rw [State.restTiming_of_mode (by rw [hma]; nofun), if_pos (show (s.arrive m).atRest = true from hr)]
    show some (s.ctl.restTimer.getD _) = _
    rw [hb]
    rfl
  have hc : (s.arrive m).modeCause = .restEnd :=
    State.modeCause_of_rest (.inr hma) (State.ignitionTiming_of_untimed (by rw [hma]; rfl)) hf (ranFor_of_le htime hle)
  rw [exec_of_due ht (State.checks_and (s := s.arrive m) hd hc) rfl, State.modeCheck_of_restEnd hc, hma, hia]
  rfl

/-- Settles O51: SHUTDOWN ended with the ignition low enters STANDBY, and every block takes its STANDBY path. -/
theorem standbyEntryQuietsEveryBlock : Obligations.StandbyEntryQuietsEveryBlock := by
  intro m s b ht hd hm hf hr hb hle hi
  refine ⟨_, exec_standbyEntry ht hd hm hf hr hb hle hi, ?_⟩
  generalize ha : (s.arrive m).timed = a
  have hctl : a.ctl.faults = s.ctl.faults ∧ a.ctl.limit = s.ctl.limit ∧ a.ctl.sprayRate = s.ctl.sprayRate ∧
      ∀ k, a.ctl.recovery k = s.ctl.recovery k := by
    rw [← ha]
    exact ⟨rfl, rfl, rfl, fun k => by cases k <;> rfl⟩
  have hblocks : a.drive = s.drive ∧ a.brush = s.brush ∧ a.spray = s.spray ∧ a.link = s.link ∧ a.capture = s.capture := by
    rw [← ha]
    exact ⟨rfl, rfl, rfl, rfl, rfl⟩
  obtain ⟨hfaults, hlimit, hrate, hcount⟩ := hctl
  obtain ⟨hdrive, hbrush, hspray, hlink, hcap⟩ := hblocks
  have hrec (src : Source) : a.channelsStandby.ctl.recordState src = s.ctl.recordState src := by
    rw [State.channelsStandby_ctl, Controller.recordState, Controller.recordState, Controller.record, Controller.record]
    dsimp only
    rw [hfaults]
  obtain ⟨udrive, ubrush, uration, uspray, upeers, ucap, uplace⟩ := a.enterStandby_blocks
  obtain ⟨e1, e2, e3, uout⟩ := a.enterStandby_out
  obtain ⟨uarms, urationCap, udust⟩ := a.enterStandby_contributions
  obtain ⟨c1, c2, c3, c4, c5, c6, c7, c8, c9, -⟩ := a.channelsStandby.ctl.standby_fields
  rw [← a.enterStandby_ctl] at c1 c2 c3 c4 c5 c6 c7 c8 c9
  have hdstate := a.driveStandby_state
  have uctl := a.enterStandby_ctl
  have ulink (h : a.link.state = .active) := State.enterStandby_link h
  generalize a.enterStandby = u at *
  rw [hdrive] at hdstate
  rw [State.finish_ctl, State.finish_out, State.finish_drive, State.finish_ration, State.finish_spray, State.finish_peers,
    State.finish_capture, State.finish_conv, udrive, State.channelsStandby_drive, uration, State.channelsStandby_ration, uspray,
    State.channelsStandby_spray, upeers, ucap, hcap, hspray]
  refine ⟨c1, c2, c3, c4, c5, c6, c7, c8.trans hlimit, c9.trans hrate, ?_, fun hw k => ?_, hdstate, rfl, rfl, rfl, rfl, rfl,
    rfl, rfl, rfl, (congrArg Drive.coilLatch hdrive :), (congrArg Drive.blind hdrive :), rfl, rfl, rfl, rfl, rfl, rfl, ?_, ?_, ?_, ?_,
    fun c => ?_, rfl, urationCap, rfl, rfl, rfl, rfl, rfl, rfl, rfl, rfl, ?_, fun hn => ?_, fun p hp => ?_, fun hl => ?_, rfl,
    uplace, ?_, ?_⟩
  · rw [State.settle_ctl_faults, uctl, Controller.standby_faults, Controller.keptLatched,
      State.channelsStandby_ctl, hfaults]
  · have hcounts : a.channelsStandby.ctl.recovery k = s.ctl.recovery k := by
      rw [← hcount k, State.channelsStandby_ctl]
      cases k <;> rfl
    rw [State.settle_ctl_recovery, uctl, Controller.standby_count, hrec, hcounts]
    rw [State.channelsStandby_ctl, hfaults]
    exact hw.sources
  · rw [State.settle_out_driveF_shadow, uout]; rfl
  · rw [State.settle_out_driveR_shadow, uout]; rfl
  · rw [State.settle_out_parkRelease, uout]; rfl
  · rw [State.settle_out_boost, uout]; rfl
  · have hbr : (u.finish s.link.state).brush c = (s.brush c).standby := by
      have h : (u.finish s.link.state).brush c = u.brush c := by
        cases c
        · exact State.finish_brush0 ..
        · exact State.finish_brush1 ..
      rw [h, ubrush, State.channelsStandby_brush, hbrush]
    have harm : u.settle.out.armOff c := by
      obtain ⟨h1, h2, h3⟩ := a.channelsStandby_armOff c
      refine ⟨?_, ?_, ?_⟩
      · rw [← h1]; cases c <;> rw [Outputs.lift] <;> simp only [State.settle_out_lift0, State.settle_out_lift1, uout] <;> rfl
      · rw [← h2]; cases c <;> rw [Outputs.float] <;> simp only [State.settle_out_float0, State.settle_out_float1, uout] <;> rfl
      · rw [State.settle_out_coil, CoilOut.forced_shadow, uout, ← h3]
        cases c <;> rfl
    rw [hbr]
    obtain ⟨h1, h2, h3⟩ := uarms c
    exact ⟨harm, rfl, rfl, rfl, rfl, rfl, rfl, rfl, rfl, rfl, h1, h2, h3⟩
  · rw [State.settle_out_pump_shadow, uout]; rfl
  · exact udust (by rw [hspray]; exact hn)
  · obtain ⟨q, -, rfl⟩ := List.mem_map.mp hp
    exact ⟨rfl, rfl, rfl⟩
  · rw [← hlink] at hl
    obtain ⟨h1, h2⟩ := ulink hl
    rw [State.finish_link_of_idle h1 (by decide)]
    exact ⟨h1, h2⟩
  · show (u.ctl.mode != .standby && _) = false
    rw [c1]
    rfl
  · rw [State.settle_out_forcing, State.forcingOn, c1]
    rfl

end Sys2Proof.Machine

/-! CLEAR and the window timers (07, section 7.4): each source's test, its restart path, and what it leaves of the others. -/

namespace Sys2Proof.Machine

/-! ### The counts of the sources that are not LATCHED (R137) -/

/-- A count set to 0 where the fault list has no LATCHED record of its source. -/
theorem Controller.foldl_zeroCount_recovery (x : Controller) (l : List Counted) (k : Counted) :
    ∀ y : Controller,
      (l.foldl (fun y k => if x.recordState (sourceOf k) = some .latched then y else y.zeroCount k) y).recovery k =
        if k ∈ l ∧ x.recordState (sourceOf k) ≠ some .latched then { y.recovery k with count := 0 } else y.recovery k := by
  induction l with
  | nil => simp
  | cons a l ih =>
    intro y
    rw [List.foldl_cons, ih]
    by_cases hk : k = a
    · subst hk
      by_cases hl : x.recordState (sourceOf k) = some .latched
      · simp [hl]
      · simp [hl, Controller.recovery_zeroCount]
    · have : (if x.recordState (sourceOf a) = some .latched then y else y.zeroCount a).recovery k = y.recovery k := by
        split
        · rfl
        · rw [Controller.recovery_zeroCount, if_neg hk]
      rw [this]
      simp [hk]

theorem Controller.zeroOthers_recovery (x : Controller) (k : Counted) :
    x.zeroOthers.recovery k =
      if x.recordState (sourceOf k) = some .latched then x.recovery k else { x.recovery k with count := 0 } := by
  have hk : k ∈ allCounted := by cases k <;> decide
  unfold Controller.zeroOthers
  rw [Controller.foldl_zeroCount_recovery]
  by_cases hl : x.recordState (sourceOf k) = some .latched <;> simp [hk, hl]

theorem Controller.zeroOthers_keeps (x : Controller) :
    x.zeroOthers.faults = x.faults ∧ x.zeroOthers.mode = x.mode := by
  have h : ∀ (l : List Counted) (y : Controller), y.faults = x.faults ∧ y.mode = x.mode →
      (l.foldl (fun y k => if x.recordState (sourceOf k) = some .latched then y else y.zeroCount k) y).faults = x.faults ∧
        (l.foldl (fun y k => if x.recordState (sourceOf k) = some .latched then y else y.zeroCount k) y).mode = x.mode := by
    intro l
    induction l with
    | nil => exact fun _ h => h
    | cons k l ih =>
      intro y hy
      rw [List.foldl_cons]
      refine ih _ ?_
      split
      · exact hy
      · simpa using hy
  exact h _ _ ⟨rfl, rfl⟩

/-! ### What a source's CLEAR leaves of the others -/

/-- The CLEAR of one source takes a state to another: nothing without a LATCHED record of the source, and never the record or
the count of another source. -/
structure State.ClearsOnly (src : Source) (s t : State) : Prop where
  noop : s.ctl.recordState src ≠ some .latched → t = s
  record : ∀ x, x ≠ src → t.ctl.record x = s.ctl.record x
  recovery : ∀ k, sourceOf k ≠ src → t.ctl.recovery k = s.ctl.recovery k
  mode : t.ctl.mode = s.ctl.mode

theorem Controller.record_clear (x : Controller) (k : Counted) (src : Source) :
    ((x.dropRecord (sourceOf k)).zeroCount k).record src = if src = sourceOf k then none else x.record src := by
  rw [Controller.record_zeroCount, Controller.record_dropRecord]

theorem Controller.recovery_clear (x : Controller) (k j : Counted) :
    ((x.dropRecord (sourceOf k)).zeroCount k).recovery j =
      if j = k then { x.recovery k with count := 0 } else x.recovery j := by
  rw [Controller.recovery_zeroCount, Controller.recovery_dropRecord, Controller.recovery_dropRecord]

theorem Controller.mode_clear (x : Controller) (k : Counted) : ((x.dropRecord (sourceOf k)).zeroCount k).mode = x.mode := by
  simp

/-- A counted source's CLEAR that drops its record and its count, or does nothing. -/
theorem State.clearsOnly_of_ctl {k : Counted} {s t : State} (hn : s.ctl.recordState (sourceOf k) ≠ some .latched → t = s)
    (h : t.ctl = s.ctl ∨ t.ctl = (s.ctl.dropRecord (sourceOf k)).zeroCount k) : s.ClearsOnly (sourceOf k) t := by
  refine ⟨hn, fun x hx => ?_, fun j hj => ?_, ?_⟩ <;> rcases h with h | h <;> rw [h]
  · rw [Controller.record_clear, if_neg hx]
  · rw [Controller.recovery_clear, if_neg fun e => hj (congrArg sourceOf e)]
  · exact Controller.mode_clear _ _

/-! ### The drive (R20) -/

/-- The drive after a CLEAR that it passed (R20). -/
def Drive.restarted (d : Drive) : Drive :=
  if d.state = .latched ∨ d.state = .yielded then
    { d with coilLatch := false, blind := false, state := .standstill, ramp := 0, integ := 0, prevRaw := 0 }
  else { d with coilLatch := false, blind := false }

theorem Drive.restarted_state_ne (d : Drive) : d.restarted.state ≠ .yielded := by
  unfold Drive.restarted
  split
  · nofun
  · rename_i h
    exact fun hy => h (.inr hy)

theorem State.driveClear_of_passes {s : State} (h : s.ctl.recordState .drive = some .latched) (hp : s.driveClearPasses = true) :
    s.driveClear.drive = s.drive.restarted ∧
      s.driveClear.ctl =
        if s.drive.pedalFault = true then (s.ctl.dropRecord .drive).putRecord .drive .pedal .active
        else s.ctl.dropRecord .drive := by
  have he : s.driveClear =
      if s.drive.pedalFault then ((s.setDrive s.drive.restarted).setCtl (s.ctl.dropRecord .drive)).postPedal
      else (s.setDrive s.drive.restarted).setCtl (s.ctl.dropRecord .drive) := by
    unfold State.driveClear
    rw [if_pos ⟨h, hp⟩]
    rfl
  have hpost : ((s.setDrive s.drive.restarted).setCtl (s.ctl.dropRecord .drive)).postPedal =
      ((s.setDrive s.drive.restarted).setCtl (s.ctl.dropRecord .drive)).setCtl
        ((s.ctl.dropRecord .drive).putRecord .drive .pedal .active) := by
    have hc : s.drive.restarted.coilLatch = false ∧ s.drive.restarted.blind = false := by
      unfold Drive.restarted
      split <;> exact ⟨rfl, rfl⟩
    unfold State.postPedal
    rw [if_neg]
    · rfl
    · simp [hc.1, hc.2, s.drive.restarted_state_ne]
  rw [he]
  split_ifs
  · rw [hpost]
    exact ⟨rfl, rfl⟩
  · exact ⟨rfl, rfl⟩

theorem State.driveClear_of_fails {s : State} (hp : s.driveClearPasses ≠ true) : s.driveClear = s := by
  unfold State.driveClear
  rw [if_neg fun h => hp h.2]

theorem State.driveClear_clearsOnly (s : State) : s.ClearsOnly .drive s.driveClear := by
  have hn (h : s.ctl.recordState .drive ≠ some .latched) : s.driveClear = s := by
    unfold State.driveClear
    rw [if_neg fun hc => h hc.1]
  by_cases h : s.ctl.recordState .drive = some .latched
  · by_cases hp : s.driveClearPasses = true
    · obtain ⟨-, hc⟩ := State.driveClear_of_passes h hp
      refine ⟨hn, fun x hx => ?_, fun k _ => ?_, ?_⟩ <;> rw [hc] <;> split <;> simp [*]
    · rw [State.driveClear_of_fails hp]
      exact ⟨fun _ => rfl, fun _ _ => rfl, fun _ _ => rfl, rfl⟩
  · rw [hn h]
    exact ⟨fun _ => rfl, fun _ _ => rfl, fun _ _ => rfl, rfl⟩

/-! ### The brush channels (R49) -/

theorem State.brushClear_of_noop {s : State} {c : Chan}
    (h : s.ctl.recordState (sourceOf (countedOf c)) ≠ some .latched ∨ s.brushClearPasses c ≠ true) : s.brushClear c = s := by
  unfold State.brushClear
  dsimp only
  rw [if_neg]
  rintro ⟨h1, h2⟩
  rcases h with h | h
  · exact h h1
  · exact h h2

/-- A channel's restart path (R49). -/
def State.brushRestarted (s : State) (c : Chan) : Brush :=
  if s.supplyLow = true then { (s.brush c).motorOff with state := .held, starved := false }
  else (s.brush c).enterRaising s.now false

theorem State.brushClear_of_passes {s : State} {c : Chan} (h : s.ctl.recordState (sourceOf (countedOf c)) = some .latched)
    (hp : s.brushClearPasses c = true) :
    s.brushClear c =
      if (s.brush c).state = .latched then
        (s.setCtl ((s.ctl.dropRecord (sourceOf (countedOf c))).zeroCount (countedOf c))).setBrush c (s.brushRestarted c)
      else s.setCtl ((s.ctl.dropRecord (sourceOf (countedOf c))).zeroCount (countedOf c)) := by
  unfold State.brushClear State.brushRestarted
  dsimp only
  rw [if_pos ⟨h, hp⟩]
  split_ifs <;> rfl

theorem State.brushClear_clearsOnly (s : State) (c : Chan) : s.ClearsOnly (sourceOf (countedOf c)) (s.brushClear c) := by
  refine State.clearsOnly_of_ctl (fun h => State.brushClear_of_noop (.inl h)) ?_
  by_cases h : s.ctl.recordState (sourceOf (countedOf c)) = some .latched ∧ s.brushClearPasses c = true
  · rw [State.brushClear_of_passes h.1 h.2]
    split_ifs
    · exact .inr (by simp)
    · exact .inr rfl
  · rw [State.brushClear_of_noop (Classical.not_and_iff_not_or_not.mp h)]
    exact .inl rfl

/-- A channel's CLEAR leaves the other channel and the supply condition alone. -/
theorem State.brushClear_brush_ne (s : State) {c d : Chan} (h : d ≠ c) : (s.brushClear c).brush d = s.brush d := by
  unfold State.brushClear
  dsimp only
  split_ifs
  · exact (State.setBrush_brush_ne _ _ h).trans (by cases d <;> rfl)
  · exact (State.setBrush_brush_ne _ _ h).trans (by cases d <;> rfl)
  · cases d <;> rfl
  · rfl

theorem State.setBrush_out_supply (s : State) (c : Chan) (b : Brush) : (s.setBrush c b).out.supply = s.out.supply := by
  cases c <;> rfl

theorem State.brushClear_supply (s : State) (c : Chan) : (s.brushClear c).out.supply = s.out.supply := by
  unfold State.brushClear
  dsimp only
  split_ifs <;> simp [State.setBrush_out_supply]

theorem State.brushClearPasses_iff {s : State} {c : Chan} {r : Record} (h : s.ctl.record (sourceOf (countedOf c)) = some r) :
    s.brushClearPasses c = true ↔
      (r.code = .overpressure ∨ r.code = .stall →
        s.pressureStatus c ≠ .outOfRange ∧ s.pressure c ≤ (s.cfg.brush c).pLim) ∧
      (r.code = .sensor → s.pressureStatus c ≠ .outOfRange) := by
  unfold State.brushClearPasses
  rw [h]
  obtain ⟨_, code, _⟩ := r
  have hle : decide ((s.brushIn c).pressure ≤ (s.brushIn c).cfg.pLim) = true ↔ s.pressure c ≤ (s.cfg.brush c).pLim :=
    decide_eq_true_iff
  have hu : (s.brushIn c).usable = true ↔ s.pressureStatus c ≠ .outOfRange := by simp [BrushIn.usable, State.brushIn]
  cases code <;> simp [hle, hu]

theorem State.brushClearPasses_congr {s t : State} {c : Chan}
    (hr : t.ctl.record (sourceOf (countedOf c)) = s.ctl.record (sourceOf (countedOf c))) (hc : t.conv = s.conv)
    (hl : t.loader = s.loader) : t.brushClearPasses c = s.brushClearPasses c := by
  unfold State.brushClearPasses BrushIn.usable State.brushIn State.pressure State.pressureStatus State.cfg
  rw [hr, hc, hl]

/-! ### The spray channel and the link (R87, R120) -/

theorem State.sprayClear_of_noop {s : State} (h : s.ctl.recordState .spray ≠ some .latched ∨ s.sprayClearPasses ≠ true) :
    s.sprayClear = s := by
  unfold State.sprayClear
  rw [if_neg]
  rintro ⟨h1, h2⟩
  rcases h with h | h
  · exact h h1
  · exact h h2

/-- The spray channel's restart path (R87). -/
def State.sprayRestarted (s : State) : Spray := if s.supplyLow = true then s.spray.toHeld else s.spray.toOff

theorem State.sprayClear_of_passes {s : State} (h : s.ctl.recordState .spray = some .latched) (hp : s.sprayClearPasses = true) :
    s.sprayClear =
      if s.spray.state = .latched then (s.setCtl ((s.ctl.dropRecord .spray).zeroCount .spray)).setSpray s.sprayRestarted
      else s.setCtl ((s.ctl.dropRecord .spray).zeroCount .spray) := by
  unfold State.sprayClear State.sprayRestarted
  dsimp only
  rw [if_pos ⟨h, hp⟩]
  split_ifs <;> rfl

theorem State.sprayClear_clearsOnly (s : State) : s.ClearsOnly .spray s.sprayClear := by
  refine State.clearsOnly_of_ctl (k := .spray) (fun h => State.sprayClear_of_noop (.inl h)) ?_
  by_cases h : s.ctl.recordState .spray = some .latched ∧ s.sprayClearPasses = true
  · rw [State.sprayClear_of_passes h.1 h.2]
    split_ifs <;> exact .inr rfl
  · rw [State.sprayClear_of_noop (Classical.not_and_iff_not_or_not.mp h)]
    exact .inl rfl

theorem State.sprayClearPasses_iff {s : State} {r : Record} (h : s.ctl.record .spray = some r) :
    s.sprayClearPasses = true ↔ (r.code = .sensor → s.conv.tank.status = .valid) := by
  unfold State.sprayClearPasses
  rw [h]
  obtain ⟨_, code, _⟩ := r
  cases code <;> simp

theorem State.linkClear_of_quiet {s : State} (h : s.ctl.recordState .link = some .latched) (hq : s.link.quiet s.now = true) :
    s.linkClear =
      (s.setCtl ((s.ctl.dropRecord .link).zeroCount .link)).setLink { s.link.toActive with latched := false } := by
  unfold State.linkClear
  rw [if_pos ⟨h, hq⟩]

theorem State.linkClear_of_noop {s : State} (h : s.ctl.recordState .link ≠ some .latched ∨ s.link.quiet s.now ≠ true) :
    s.linkClear = s := by
  unfold State.linkClear
  rw [if_neg]
  rintro ⟨h1, h2⟩
  rcases h with h | h
  · exact h h1
  · exact h h2

theorem State.linkClear_clearsOnly (s : State) : s.ClearsOnly .link s.linkClear := by
  refine State.clearsOnly_of_ctl (k := .link) (fun h => State.linkClear_of_noop (.inl h)) ?_
  by_cases h : s.ctl.recordState .link = some .latched ∧ s.link.quiet s.now = true
  · rw [State.linkClear_of_quiet h.1 h.2]
    exact .inr rfl
  · rw [State.linkClear_of_noop (Classical.not_and_iff_not_or_not.mp h)]
    exact .inl rfl

/-! ### The CLEAR whole (R137) -/

/-- The CLEAR up to a source's own part: the counts first, then the drive, the brush channels, the spray channel and the link. -/
def State.clearBefore (s : State) : Source → State
  | .drive => s.setCtl s.ctl.zeroOthers
  | .brush0 => (s.setCtl s.ctl.zeroOthers).driveClear
  | .brush1 => (s.setCtl s.ctl.zeroOthers).driveClear.brushClear .c0
  | .spray => ((s.setCtl s.ctl.zeroOthers).driveClear.brushClear .c0).brushClear .c1
  | .link => (((s.setCtl s.ctl.zeroOthers).driveClear.brushClear .c0).brushClear .c1).sprayClear
  | .config | .supply => s.takeClear

/-- The CLEAR up to the end of a source's own part. -/
def State.clearAfter (s : State) : Source → State
  | .drive => (s.clearBefore .drive).driveClear
  | .brush0 => (s.clearBefore .brush0).brushClear .c0
  | .brush1 => (s.clearBefore .brush1).brushClear .c1
  | .spray => (s.clearBefore .spray).sprayClear
  | .link => (s.clearBefore .link).linkClear
  | .config | .supply => s.takeClear

theorem State.clearAfter_clearsOnly (s : State) (src : Source) : (s.clearBefore src).ClearsOnly src (s.clearAfter src) := by
  cases src
  case drive => exact State.driveClear_clearsOnly _
  case brush0 => exact State.brushClear_clearsOnly _ .c0
  case brush1 => exact State.brushClear_clearsOnly _ .c1
  case spray => exact State.sprayClear_clearsOnly _
  case link => exact State.linkClear_clearsOnly _
  all_goals exact ⟨fun _ => rfl, fun _ _ => rfl, fun _ _ => rfl, rfl⟩

section Chain

variable (s : State)

theorem State.clear_drive : (s.clearBefore .drive).ClearsOnly .drive (s.clearBefore .brush0) := s.clearAfter_clearsOnly .drive
theorem State.clear_brush0 : (s.clearBefore .brush0).ClearsOnly .brush0 (s.clearBefore .brush1) :=
  s.clearAfter_clearsOnly .brush0
theorem State.clear_brush1 : (s.clearBefore .brush1).ClearsOnly .brush1 (s.clearBefore .spray) :=
  s.clearAfter_clearsOnly .brush1
theorem State.clear_spray : (s.clearBefore .spray).ClearsOnly .spray (s.clearBefore .link) := s.clearAfter_clearsOnly .spray
theorem State.clear_link : (s.clearBefore .link).ClearsOnly .link s.takeClear := s.clearAfter_clearsOnly .link

end Chain

/-- A source's record stands as it was until its own part. -/
theorem State.clearBefore_record (s : State) (src : Source) : (s.clearBefore src).ctl.record src = s.ctl.record src := by
  have h0 (x : Source) : (s.clearBefore .drive).ctl.record x = s.ctl.record x := by
    show s.ctl.zeroOthers.record x = _
    rw [Controller.record, s.ctl.zeroOthers_keeps.1, Controller.record]
  have h1 (x : Source) (hx : x ≠ .drive) := (s.clear_drive.record x hx).trans (h0 x)
  have h2 (x : Source) (hx : x ≠ .drive) (hx' : x ≠ .brush0) := (s.clear_brush0.record x hx').trans (h1 x hx)
  have h3 (x : Source) (hx : x ≠ .drive) (hx' : x ≠ .brush0) (h : x ≠ .brush1) :=
    (s.clear_brush1.record x h).trans (h2 x hx hx')
  have h4 (x : Source) (hx : x ≠ .drive) (hx' : x ≠ .brush0) (h : x ≠ .brush1) (h' : x ≠ .spray) :=
    (s.clear_spray.record x h').trans (h3 x hx hx' h)
  have h5 (x : Source) (hx : x ≠ .drive) (hx' : x ≠ .brush0) (h : x ≠ .brush1) (h' : x ≠ .spray) (h'' : x ≠ .link) :=
    (s.clear_link.record x h'').trans (h4 x hx hx' h h')
  cases src
  case drive => exact h0 _
  case brush0 => exact h1 _ nofun
  case brush1 => exact h2 _ nofun nofun
  case spray => exact h3 _ nofun nofun nofun
  case link => exact h4 _ nofun nofun nofun nofun
  all_goals exact h5 _ nofun nofun nofun nofun nofun

/-- After its own part a source's record stays. -/
theorem State.takeClear_record (s : State) (src : Source) : s.takeClear.ctl.record src = (s.clearAfter src).ctl.record src := by
  cases src
  case drive =>
    rw [s.clear_link.record .drive (by decide), s.clear_spray.record .drive (by decide), s.clear_brush1.record .drive (by decide),
      s.clear_brush0.record .drive (by decide)]
    rfl
  case brush0 =>
    rw [s.clear_link.record .brush0 (by decide), s.clear_spray.record .brush0 (by decide), s.clear_brush1.record .brush0 (by decide)]
    rfl
  case brush1 =>
    rw [s.clear_link.record .brush1 (by decide), s.clear_spray.record .brush1 (by decide)]
    rfl
  case spray =>
    rw [s.clear_link.record .spray (by decide)]
    rfl
  all_goals rfl

/-- A source's count stands as R137 set it until its own part, and stays after it. -/
theorem State.clear_recovery (s : State) (k : Counted) :
    (s.clearBefore (sourceOf k)).ctl.recovery k = s.ctl.zeroOthers.recovery k ∧
      s.takeClear.ctl.recovery k = (s.clearAfter (sourceOf k)).ctl.recovery k := by
  have h1 (j : Counted) : (s.clearBefore .brush0).ctl.recovery j = s.ctl.zeroOthers.recovery j :=
    s.clear_drive.recovery j (by cases j <;> nofun)
  cases k
  case brush0 =>
    refine ⟨h1 _, ?_⟩
    rw [s.clear_link.recovery .brush0 (by decide), s.clear_spray.recovery .brush0 (by decide), s.clear_brush1.recovery .brush0 (by decide)]
    rfl
  case brush1 =>
    refine ⟨(s.clear_brush0.recovery .brush1 (by decide)).trans (h1 _), ?_⟩
    rw [s.clear_link.recovery .brush1 (by decide), s.clear_spray.recovery .brush1 (by decide)]
    rfl
  case spray =>
    refine ⟨(s.clear_brush1.recovery .spray (by decide)).trans ((s.clear_brush0.recovery .spray (by decide)).trans (h1 _)), ?_⟩
    rw [s.clear_link.recovery .spray (by decide)]
    rfl
  case link =>
    exact ⟨(s.clear_spray.recovery .link (by decide)).trans ((s.clear_brush1.recovery .link (by decide)).trans
      ((s.clear_brush0.recovery .link (by decide)).trans (h1 _))), rfl⟩

theorem State.clearBefore_recordState (s : State) (src : Source) :
    (s.clearBefore src).ctl.recordState src = s.ctl.recordState src := by
  rw [Controller.recordState, State.clearBefore_record, Controller.recordState]

/-- A source without a LATCHED record keeps its record (R137). -/
theorem State.takeClear_record_of_not_latched {s : State} {src : Source}
    (h : src = .config ∨ s.ctl.recordState src ≠ some .latched) : s.takeClear.ctl.record src = s.ctl.record src := by
  rcases h with rfl | h
  · exact s.clearBefore_record .config
  · rw [State.takeClear_record, (s.clearAfter_clearsOnly src).noop (by rw [State.clearBefore_recordState]; exact h),
      State.clearBefore_record]

/-- A counted source without a LATCHED record has a count of 0 (R137). -/
theorem State.takeClear_count_of_not_latched {s : State} {k : Counted} (h : s.ctl.recordState (sourceOf k) ≠ some .latched) :
    (s.takeClear.ctl.recovery k).count = 0 := by
  obtain ⟨hb, ha⟩ := s.clear_recovery k
  rw [ha, (s.clearAfter_clearsOnly _).noop (by rw [State.clearBefore_recordState]; exact h), hb,
    Controller.zeroOthers_recovery, if_neg h]

theorem State.takeClear_mode (s : State) : s.takeClear.ctl.mode = s.ctl.mode := by
  rw [s.clear_link.mode, s.clear_spray.mode, s.clear_brush1.mode, s.clear_brush0.mode, s.clear_drive.mode]
  exact s.ctl.zeroOthers_keeps.2

/-! What a source's part reads of the other blocks, it finds as it was. -/

theorem State.clearBefore_brush (s : State) (c : Chan) :
    (s.clearBefore (sourceOf (countedOf c))).brush c = s.brush c ∧
      (s.clearBefore (sourceOf (countedOf c))).conv = s.conv ∧
      (s.clearBefore (sourceOf (countedOf c))).loader = s.loader ∧
      (s.clearBefore (sourceOf (countedOf c))).out.supply = s.out.supply := by
  have h : (s.clearBefore .brush0).brush = s.brush ∧ (s.clearBefore .brush0).conv = s.conv ∧
      (s.clearBefore .brush0).loader = s.loader ∧ (s.clearBefore .brush0).out.supply = s.out.supply := by
    unfold State.clearBefore
    refine ⟨?_, by simp, by simp, by simp⟩
    funext c
    cases c <;> simp [State.brush]
  obtain ⟨h1, h2, h3, h4⟩ := h
  cases c
  · exact ⟨congrFun h1 _, h2, h3, h4⟩
  · refine ⟨(State.brushClear_brush_ne (c := .c0) (d := .c1) _ (by decide)).trans (congrFun h1 _), ?_, ?_, (State.brushClear_supply _ _).trans h4⟩
    · rw [← h2]; exact (State.brushClear_keeps (s.clearBefore .brush0) .c0).2.2.2.2.2.2.2.2.2.2.1
    · rw [← h3]; exact (State.brushClear_keeps (s.clearBefore .brush0) .c0).2.2.1

theorem State.clearBefore_spray (s : State) :
    (s.clearBefore .spray).spray = s.spray ∧ (s.clearBefore .spray).conv = s.conv ∧
      (s.clearBefore .spray).out.supply = s.out.supply := by
  refine ⟨by simp [State.clearBefore], by simp [State.clearBefore], ?_⟩
  exact (State.brushClear_supply _ _).trans (s.clearBefore_brush .c1).2.2.2

theorem State.clearBefore_link (s : State) :
    (s.clearBefore .link).link = s.link ∧ (s.clearBefore .link).now = s.now := by
  simp [State.clearBefore]

/-! ### Each source's part (R20, R49, R87, R120) -/

theorem State.takeClear_drive (s : State) : s.takeClear.drive = (s.clearAfter .drive).drive := by
  unfold State.takeClear State.clearAfter State.clearBefore
  simp

theorem State.takeClear_drive_of_passes {s : State} (hl : s.ctl.recordState .drive = some .latched)
    (hp : s.driveClearPasses = true) :
    s.takeClear.drive = s.drive.restarted ∧
      s.takeClear.ctl.record .drive =
        if s.drive.pedalFault = true then some { source := .drive, code := .pedal, state := .active } else none := by
  obtain ⟨h1, h2⟩ := State.driveClear_of_passes (s := s.clearBefore .drive)
    (by rw [State.clearBefore_recordState]; exact hl) hp
  rw [State.takeClear_drive, State.takeClear_record]
  refine ⟨h1, ?_⟩
  show (s.clearBefore .drive).driveClear.ctl.record .drive = _
  rw [h2]
  show Controller.record (if s.drive.pedalFault = true then _ else _) _ = _
  split_ifs
  · rw [Controller.record_putRecord, if_pos rfl]
  · rw [Controller.record_dropRecord, if_pos rfl]

theorem State.takeClear_drive_of_fails {s : State} (hp : s.driveClearPasses ≠ true) :
    s.takeClear.drive = s.drive ∧ s.takeClear.ctl.record .drive = s.ctl.record .drive := by
  have h : s.clearAfter .drive = s.clearBefore .drive := State.driveClear_of_fails (s := s.clearBefore .drive) hp
  rw [State.takeClear_drive, State.takeClear_record, h]
  exact ⟨rfl, s.clearBefore_record .drive⟩

theorem State.takeClear_brush (s : State) (c : Chan) :
    s.takeClear.brush c = (s.clearAfter (sourceOf (countedOf c))).brush c := by
  have h (t : State) : t.sprayClear.linkClear.brush = t.brush := by
    funext c
    cases c <;> simp [State.brush]
  cases c
  · exact (congrFun (h _) _).trans (State.brushClear_brush_ne (c := .c1) (d := .c0) _ (by decide))
  · exact congrFun (h _) _

theorem State.clearBefore_brushClearPasses (s : State) (c : Chan) :
    (s.clearBefore (sourceOf (countedOf c))).brushClearPasses c = s.brushClearPasses c := by
  obtain ⟨-, hc, hl, -⟩ := s.clearBefore_brush c
  exact State.brushClearPasses_congr (s.clearBefore_record _) hc hl

theorem State.clearAfter_brush (s : State) (c : Chan) :
    s.clearAfter (sourceOf (countedOf c)) = (s.clearBefore (sourceOf (countedOf c))).brushClear c := by
  cases c <;> rfl

theorem State.takeClear_brush_of_passes {s : State} {c : Chan}
    (hl : s.ctl.recordState (sourceOf (countedOf c)) = some .latched) (hp : s.brushClearPasses c = true) :
    s.takeClear.ctl.record (sourceOf (countedOf c)) = none ∧ (s.takeClear.ctl.recovery (countedOf c)).count = 0 ∧
      ((s.brush c).state = .latched →
        (s.takeClear.brush c).state = (if s.supplyLow = true then .held else .raising) ∧
          (s.takeClear.brush c).starved = false ∧ (s.takeClear.brush c).code = (s.brush c).code) := by
  obtain ⟨hb, -, -, hs⟩ := s.clearBefore_brush c
  have he := State.brushClear_of_passes (s := s.clearBefore (sourceOf (countedOf c)))
    (by rw [State.clearBefore_recordState]; exact hl) (by rw [State.clearBefore_brushClearPasses]; exact hp)
  rw [← State.clearAfter_brush] at he
  have hctl : (s.clearAfter (sourceOf (countedOf c))).ctl =
      ((s.clearBefore (sourceOf (countedOf c))).ctl.dropRecord (sourceOf (countedOf c))).zeroCount (countedOf c) := by
    rw [he]
    split_ifs
    · exact State.setBrush_ctl ..
    · rfl
  refine ⟨?_, ?_, fun hst => ?_⟩
  · rw [State.takeClear_record, hctl, Controller.record_clear, if_pos rfl]
  · rw [(s.clear_recovery (countedOf c)).2, hctl, Controller.recovery_clear, if_pos rfl]
  · rw [State.takeClear_brush, he, hb, if_pos hst, State.setBrush_brush, State.brushRestarted, hb]
    have hsup : (s.clearBefore (sourceOf (countedOf c))).supplyLow = s.supplyLow := by
      rw [State.supplyLow, hs, State.supplyLow]
    rw [hsup]
    split_ifs <;> exact ⟨rfl, rfl, rfl⟩

theorem State.takeClear_brush_of_fails {s : State} {c : Chan}
    (hl : s.ctl.recordState (sourceOf (countedOf c)) = some .latched) (hp : s.brushClearPasses c ≠ true) :
    s.takeClear.ctl.record (sourceOf (countedOf c)) = s.ctl.record (sourceOf (countedOf c)) ∧
      s.takeClear.brush c = s.brush c ∧ s.takeClear.ctl.recovery (countedOf c) = s.ctl.recovery (countedOf c) := by
  have h : s.clearAfter (sourceOf (countedOf c)) = s.clearBefore (sourceOf (countedOf c)) := by
    rw [State.clearAfter_brush, State.brushClear_of_noop]
    exact .inr (by rw [State.clearBefore_brushClearPasses]; exact hp)
  obtain ⟨hr, hr'⟩ := s.clear_recovery (countedOf c)
  rw [State.takeClear_record, State.takeClear_brush, hr', h, hr, Controller.zeroOthers_recovery, if_pos hl]
  exact ⟨s.clearBefore_record _, (s.clearBefore_brush c).1, rfl⟩

theorem State.takeClear_spray (s : State) : s.takeClear.spray = (s.clearAfter .spray).spray := by
  show (s.clearAfter .spray).linkClear.spray = _
  simp

theorem State.clearBefore_sprayClearPasses (s : State) : (s.clearBefore .spray).sprayClearPasses = s.sprayClearPasses := by
  unfold State.sprayClearPasses
  rw [State.clearBefore_record, s.clearBefore_spray.2.1]

theorem State.takeClear_spray_of_passes {s : State} (hl : s.ctl.recordState .spray = some .latched)
    (hp : s.sprayClearPasses = true) :
    s.takeClear.ctl.record .spray = none ∧ (s.takeClear.ctl.recovery .spray).count = 0 ∧
      (s.spray.state = .latched → s.takeClear.spray = s.sprayRestarted) := by
  obtain ⟨hb, -, hs⟩ := s.clearBefore_spray
  have he : s.clearAfter .spray = _ := State.sprayClear_of_passes (s := s.clearBefore .spray)
    (by rw [State.clearBefore_recordState]; exact hl) (by rw [State.clearBefore_sprayClearPasses]; exact hp)
  have hctl : (s.clearAfter .spray).ctl = ((s.clearBefore .spray).ctl.dropRecord .spray).zeroCount .spray := by
    rw [he]
    split_ifs <;> rfl
  refine ⟨?_, ?_, fun hst => ?_⟩
  · rw [State.takeClear_record, hctl]
    exact (Controller.record_clear _ .spray _).trans (if_pos rfl)
  · rw [(s.clear_recovery .spray).2]
    show ((s.clearAfter .spray).ctl.recovery .spray).count = 0
    rw [hctl]
    exact congrArg Recovery.count ((Controller.recovery_clear _ .spray _).trans (if_pos rfl))
  · have hsup : (s.clearBefore .spray).supplyLow = s.supplyLow := by rw [State.supplyLow, hs, State.supplyLow]
    rw [State.takeClear_spray, he, hb, if_pos hst]
    show (s.clearBefore .spray).sprayRestarted = _
    rw [State.sprayRestarted, State.sprayRestarted, hb, hsup]

theorem State.takeClear_spray_of_fails {s : State} (hl : s.ctl.recordState .spray = some .latched)
    (hp : s.sprayClearPasses ≠ true) :
    s.takeClear.ctl.record .spray = s.ctl.record .spray ∧ s.takeClear.spray = s.spray ∧
      s.takeClear.ctl.recovery .spray = s.ctl.recovery .spray := by
  have h : s.clearAfter .spray = s.clearBefore .spray :=
    State.sprayClear_of_noop (.inr (by rw [State.clearBefore_sprayClearPasses]; exact hp))
  obtain ⟨hr, hr'⟩ := s.clear_recovery .spray
  rw [State.takeClear_record, State.takeClear_spray, hr', show sourceOf .spray = .spray from rfl, h]
  refine ⟨s.clearBefore_record _, s.clearBefore_spray.1, hr.trans ?_⟩
  rw [Controller.zeroOthers_recovery]
  exact if_pos hl

theorem State.takeClear_link_of_quiet {s : State} (hl : s.ctl.recordState .link = some .latched)
    (hq : s.link.quiet s.now = true) :
    s.takeClear.ctl.record .link = none ∧ (s.takeClear.ctl.recovery .link).count = 0 ∧
      s.takeClear.link = { s.link.toActive with latched := false } := by
  obtain ⟨h1, h2⟩ := s.clearBefore_link
  have he : s.takeClear = _ := State.linkClear_of_quiet (s := s.clearBefore .link)
    (by rw [State.clearBefore_recordState]; exact hl) (by rw [h1, h2]; exact hq)
  rw [he, h1]
  exact ⟨(Controller.record_clear _ .link _).trans (if_pos rfl),
    congrArg Recovery.count ((Controller.recovery_clear _ .link _).trans (if_pos rfl)), rfl⟩

theorem State.takeClear_link_of_noop {s : State} (h : s.link.quiet s.now ≠ true) :
    s.takeClear.ctl.record .link = s.ctl.record .link ∧ s.takeClear.link = s.link := by
  obtain ⟨h1, h2⟩ := s.clearBefore_link
  have he : s.takeClear = s.clearBefore .link := State.linkClear_of_noop (s := s.clearBefore .link) (.inr (by rw [h1, h2]; exact h))
  rw [he, h1]
  exact ⟨s.clearBefore_record .link, rfl⟩

/-! ### The tests as R20 states them -/

theorem State.lowerClaimant_iff (s : State) :
    s.lowerClaimant = true ↔
      ∃ p ∈ s.peers, s.tableOwn ≠ some p.station ∧ p.station < s.loader.station ∧ (p.fresh = .fresh ∨ p.fresh = .stale) ∧
        ∃ f, p.fields = some f ∧ f.claim = true := by
  have hclaims (p : Peer) : p.claims = true ↔
      (p.fresh = .fresh ∨ p.fresh = .stale) ∧ ∃ f, p.fields = some f ∧ f.claim = true := by
    unfold Peer.claims
    rw [Bool.and_eq_true]
    refine and_congr ?_ ?_
    · cases p.fresh <;> simp [Freshness.heard]
    · cases p.fields <;> simp
  unfold State.lowerClaimant State.others
  simp only [List.any_eq_true, List.mem_filter, Bool.and_eq_true, decide_eq_true_eq, bne_iff_ne, ne_eq, hclaims]
  constructor
  · rintro ⟨p, ⟨hp, ho⟩, hc, hlt⟩
    exact ⟨p, hp, ho, hlt, hc⟩
  · rintro ⟨p, hp, ho, hlt, hc⟩
    exact ⟨p, ⟨hp, ho⟩, hc, hlt⟩

theorem State.driveClearPasses_iff (s : State) :
    s.driveClearPasses = true ↔
      (s.drive.coilLatch = true →
          (if s.drive.blind = true then s.drive.ramp else s.capture.pace.natAbs) ≤ 30 ∧ s.drive.pedal = 0) ∧
        (s.drive.blind = true →
          s.drive.state = .standstill ∨ s.drive.state = .latched ∨ s.drive.state = .yielded) ∧
        (s.drive.state = .yielded → ¬s.lowerClaimant = true) := by
  unfold State.driveClearPasses State.restSpeed
  simp only [Bool.and_eq_true, Bool.or_eq_true, Bool.not_eq_true', decide_eq_true_eq, beq_iff_eq, bne_iff_ne, ne_eq,
    and_assoc]
  refine and_congr ?_ (and_congr ?_ ?_)
  · cases s.drive.coilLatch <;> simp
  · cases s.drive.blind <;> simp [or_assoc]
  · rw [Bool.not_eq_true, or_iff_not_imp_left, not_not]

theorem State.finish_link_latched (b : LinkState) (s : State) : (s.finish b).link.latched = s.link.latched := by
  rw [State.finish_link]
  split <;> rfl

theorem Link.quiet_iff (l : Link) (now : Micros) :
    l.quiet now = true ↔ l.clashTimer = none ∨ ∃ b, l.clashTimer = some b ∧ b + 2000000 ≤ now := by
  unfold Link.quiet
  cases l.clashTimer with
  | none => simp
  | some b =>
    have h : ranFor (some b) now (ms 2000) = true ↔ b + 2000000 ≤ now := by
      rw [show ms 2000 = 2000000 from rfl]
      exact decide_eq_true_iff
    simp [h]

/-! ### The row -/

/-- The end of a row and the time to its moment leave the channels, the records and the counts. -/
theorem State.finish_arrive_fields (u : State) (m : Moment) (b : LinkState) :
    ((u.finish b).arrive m).drive = u.drive ∧ ((u.finish b).arrive m).brush = u.brush ∧
      ((u.finish b).arrive m).spray = u.spray ∧ ((u.finish b).arrive m).ctl = u.settle.ctl := by
  refine ⟨State.finish_drive .., ?_, State.finish_spray .., State.finish_ctl ..⟩
  funext c
  cases c
  · exact State.finish_brush0 ..
  · exact State.finish_brush1 ..

theorem Drive.restarted_spec (d : Drive) :
    d.restarted.coilLatch = false ∧ d.restarted.blind = false ∧ d.restarted.engaged = d.engaged ∧
      (d.state = .latched ∨ d.state = .yielded →
        d.restarted.state = .standstill ∧ d.restarted.ramp = 0 ∧ d.restarted.integ = 0 ∧ d.restarted.prevRaw = 0) ∧
      (d.state ≠ .latched → d.state ≠ .yielded → d.restarted.state = d.state) := by
  unfold Drive.restarted
  split
  · rename_i h
    exact ⟨rfl, rfl, rfl, fun _ => ⟨rfl, rfl, rfl, rfl⟩, fun h1 h2 => absurd h (not_or.mpr ⟨h1, h2⟩)⟩
  · rename_i h
    exact ⟨rfl, rfl, rfl, fun hc => absurd hc h, fun _ _ => rfl⟩

/-- The spray channel's restart states leave no dust cap (R82). -/
theorem State.sprayRestarted_spec (s : State) :
    s.sprayRestarted.state = (if s.supplyLow = true then .held else .off) ∧ s.sprayRestarted.trim = 0 ∧
      s.sprayRestarted.code = s.spray.code := by
  unfold State.sprayRestarted
  split_ifs <;> exact ⟨rfl, rfl, rfl⟩

theorem State.dustStands_of_state {s : State} (h : s.spray.state ≠ .empty) (h' : s.spray.state ≠ .latched) :
    s.dustStands = false := by
  simp [State.dustStands, h, h']

theorem State.takeOther_clear (s : State) : s.takeOther .clear = s.takeClear := rfl

/-- CLEAR takes its head alone. -/
theorem exec_clear_alone {s : State} {m : Moment} {c : Command} {rest : List Command} (ha : s.takesAlone m)
    (hq : s.ctl.queue = c :: rest) (hk : c.kind = .clear) (hm : s.ctl.mode ≠ .standby) :
    exec (.clear m) s = .next ((s.popped.takeClear.finish s.link.state).arrive m) := by
  have h := exec_takeRow_alone (k := .clear) ha hq (by rw [hk]; rfl) hm
  rw [hk, State.takeOther_clear] at h
  exact h

/-- Settles O54: the CLEAR source by source, and the end of a window timer. -/
theorem clearTestsTheLatchedSources : Obligations.ClearTestsTheLatchedSources := by
  refine ⟨fun m from_ rest s _ ha hq hm => ?_, fun m k b s ht hl hb hle => ?_⟩
  · intro lower drivePasses brushPasses
    have hdrive : s.popped.driveClearPasses = true ↔ drivePasses :=
      (State.driveClearPasses_iff s.popped).trans
        (and_congr_right fun _ => and_congr_right fun _ => imp_congr_right fun _ => not_congr (State.lowerClaimant_iff s.popped))
    refine ⟨(s.popped.takeClear.finish s.link.state).arrive m, exec_clear_alone ha hq rfl hm, ?_⟩
    have hqueue : s.popped.takeClear.ctl.queue = rest := by
      refine (State.takeOther_ctl_queue s.popped .clear).trans ?_
      rw [State.popped_ctl_queue, hq]
      rfl
    have hmode : s.popped.takeClear.ctl.mode = s.ctl.mode := s.popped.takeClear_mode
    have hcount (k : Counted) (h : s.ctl.recordState (sourceOf k) ≠ some .latched) :
        (s.popped.takeClear.ctl.recovery k).count = 0 := State.takeClear_count_of_not_latched (s := s.popped) h
    have hrec (src : Source) (h : src = .config ∨ s.ctl.recordState src ≠ some .latched) :
        s.popped.takeClear.ctl.record src = s.ctl.record src := State.takeClear_record_of_not_latched (s := s.popped) h
    have hd (hl : s.ctl.recordState .drive = some .latched) (hp : drivePasses) :=
      State.takeClear_drive_of_passes (s := s.popped) hl (hdrive.mpr hp)
    have hd' (hp : ¬drivePasses) := State.takeClear_drive_of_fails (s := s.popped) fun h => hp (hdrive.mp h)
    have hb (c : Chan) (hl : s.ctl.recordState (sourceOf (countedOf c)) = some .latched)
        (hp : s.popped.brushClearPasses c = true) := State.takeClear_brush_of_passes (s := s.popped) hl hp
    have hb' (c : Chan) (hl : s.ctl.recordState (sourceOf (countedOf c)) = some .latched)
        (hp : s.popped.brushClearPasses c ≠ true) := State.takeClear_brush_of_fails (s := s.popped) hl hp
    have hx (hl : s.ctl.recordState .spray = some .latched) (hp : s.popped.sprayClearPasses = true) :=
      State.takeClear_spray_of_passes (s := s.popped) hl hp
    have hx' (hl : s.ctl.recordState .spray = some .latched) (hp : s.popped.sprayClearPasses ≠ true) :=
      State.takeClear_spray_of_fails (s := s.popped) hl hp
    have hk (hl : s.ctl.recordState .link = some .latched) (hq : s.link.quiet s.now = true) :=
      State.takeClear_link_of_quiet (s := s.popped) hl hq
    have hk' (hq : s.link.quiet s.now ≠ true) := State.takeClear_link_of_noop (s := s.popped) hq
    generalize s.popped.takeClear = u at *
    obtain ⟨tdrive, tbrush, tspray, tctl⟩ := u.finish_arrive_fields m s.link.state
    rw [tdrive, tbrush, tspray, tctl, State.arrive_link]
    refine ⟨hqueue, hmode, fun k hk => ?_, fun src r hr hst => ?_, fun hl => ⟨fun hp => ?_, fun hp => hd' hp⟩,
      fun c r hr hst => ⟨fun hp => ?_, fun hp => ?_⟩, fun r hr hst => ⟨fun hp => ?_, fun hc hp => ?_⟩,
      fun hl => ⟨fun hq => ?_, fun b hb hlt => ?_⟩⟩
    · rw [State.settle_ctl_recovery]
      exact hcount k hk
    · rw [State.settle_ctl_record, hrec src (hst.imp_right fun h => ?_), hr]
      simpa [Controller.recordState, hr] using h
    · obtain ⟨h1, h2⟩ := hd hl hp
      obtain ⟨r1, r2, r3, r4, r5⟩ := s.popped.drive.restarted_spec
      rw [h1, State.settle_ctl_record, h2]
      exact ⟨r1, r2, r3, r4, r5, rfl⟩
    · rw [State.settle_ctl_record, State.settle_ctl_recovery]
      exact hb c (Controller.recordState_eq_some_iff.mpr ⟨r, hr, hst⟩) ((State.brushClearPasses_iff (s := s.popped) hr).mpr hp)
    · obtain ⟨h1, h2, h3⟩ := hb' c (Controller.recordState_eq_some_iff.mpr ⟨r, hr, hst⟩)
        fun h => hp ((State.brushClearPasses_iff (s := s.popped) hr).mp h)
      rw [State.settle_ctl_record, State.settle_ctl_recovery, h1, h2, h3]
      exact ⟨hr, by cases c <;> rfl, by cases c <;> rfl⟩
    · obtain ⟨h1, h2, h3⟩ := hx (Controller.recordState_eq_some_iff.mpr ⟨r, hr, hst⟩)
        ((State.sprayClearPasses_iff (s := s.popped) hr).mpr hp)
      rw [State.settle_ctl_record, State.settle_ctl_sprayCount]
      refine ⟨h1, h2, fun hs => ?_⟩
      obtain ⟨r1, r2, r3⟩ := s.popped.sprayRestarted_spec
      rw [← h3 hs] at r1 r2 r3
      refine ⟨r1, r2, r3, ?_⟩
      have hdust : u.dustStands = false := by
        refine State.dustStands_of_state ?_ ?_ <;> rw [r1] <;> split <;> nofun
      rw [State.settle_ctl_contrib, State.contributions, hdust]
      rfl
    · obtain ⟨h1, h2, h3⟩ := hx' (Controller.recordState_eq_some_iff.mpr ⟨r, hr, hst⟩)
        fun h => hp ((State.sprayClearPasses_iff (s := s.popped) hr).mp h hc)
      rw [State.settle_ctl_record, State.settle_ctl_sprayCount, h1, h2]
      exact ⟨hr, rfl, congrArg Recovery.count h3⟩
    · obtain ⟨h1, h2, h3⟩ := hk hl ((Link.quiet_iff _ _).mpr hq)
      rw [State.finish_link_state, State.finish_link_latched, State.settle_ctl_record, State.settle_ctl_linkCount, h3]
      exact ⟨rfl, rfl, h1, h2⟩
    · obtain ⟨h1, h2⟩ := hk' fun hq => by
        rcases (Link.quiet_iff _ _).mp hq with h | ⟨b', hb', hle⟩
        · rw [h] at hb; cases hb
        · rw [hb] at hb'
          cases hb'
          exact absurd hle (Nat.not_le_of_lt hlt)
      rw [State.finish_link_of_state (by rw [h2]; rfl), State.settle_ctl_record, h1, h2]
      exact ⟨rfl, rfl⟩
  · have hd : (s.arrive m).windowDue k = true := by
      rw [State.windowDue, Bool.and_eq_true, bne_iff_ne]
      exact ⟨hl, ranFor_of_le hb hle⟩
    refine ⟨_, exec_of_due ht hd rfl, ?_⟩
    rw [State.finish_ctl]
    refine ⟨?_, ?_, fun j hj => ?_, ?_, ?_⟩
    · rw [State.settle_ctl_recovery, State.setCtl_ctl, Controller.recovery_setRecovery, if_pos rfl]
      rfl
    · rw [State.settle_ctl_faults, State.setCtl_ctl]
      cases k <;> rfl
    · rw [State.settle_ctl_recovery, State.setCtl_ctl, Controller.recovery_setRecovery, if_neg hj]
      rfl
    · obtain ⟨h1, h2, h3, h4, h5⟩ := (s.arrive m).sameChannels_finish_setCtl ((s.arrive m).ctl.setRecovery k Recovery.zero) s.link.state
      exact ⟨h1, h2, h3, h4, h5⟩
    · obtain ⟨h1, h2, h3, h4, h5, h6⟩ := (s.arrive m).sameBlocks_finish_setCtl ((s.arrive m).ctl.setRecovery k Recovery.zero)
      exact ⟨h1, h2, h3, h4, h5, h6⟩

end Sys2Proof.Machine

/-! The capture unit: what an edge and a zero-rate timeout make of an input (08, sections 8.2 to 8.4). -/

namespace Sys2Proof.Machine

/-! ### One edge (R141 to R143) -/

theorem Capture.setInput_self (c : Capture) (k : Pulse) : c.setInput k (c.input k) = c := by cases k <;> rfl

theorem PulseInput.overdue_of_within {x : PulseInput} {timeout now : Micros}
    (h : ∀ b, x.zeroTimer = some b → now ≤ b + timeout) : x.overdue timeout now = x := by
  unfold PulseInput.overdue
  rw [if_neg]
  cases hx : x.zeroTimer with
  | none => exact Bool.false_ne_true
  | some b =>
    intro hr
    have hr : (b + timeout) + 1 ≤ now := of_decide_eq_true hr
    exact Nat.lt_irrefl _ (hr.trans (h b hx))

theorem PulseInput.edge_of_first {x : PulseInput} (h : x.reference = none) (i : Image) (k : Pulse) (now : Micros) :
    x.edge i k now = x.first now := by
  unfold PulseInput.edge
  rw [h]

theorem PulseInput.edge_of_reference {x : PulseInput} {r : Micros} (h : x.reference = some r) (i : Image) (k : Pulse)
    (now : Micros) : x.edge i k now = if now - r < 50 then x else x.period i k r now := by
  unfold PulseInput.edge
  rw [h]

/-- The WHEEL edge that is not rejected. -/
def Capture.wheelJudged (c : Capture) (i : Image) (now : Micros) (rev : Bool) : Capture :=
  if rev != c.reverse then { c with wheel := c.wheel.restartAt now, reverse := rev }
  else { c with wheel := c.wheel.edge i .wheel now }

theorem Capture.wheelEdge_of_first {c : Capture} (h : c.wheel.reference = none) (i : Image) (now : Micros) (rev : Bool) :
    c.wheelEdge i now rev = c.wheelJudged i now rev := by
  unfold Capture.wheelEdge
  dsimp only
  rw [h]
  rfl

theorem Capture.wheelEdge_of_reference {c : Capture} {r : Micros} (h : c.wheel.reference = some r) (i : Image) (now : Micros)
    (rev : Bool) : c.wheelEdge i now rev = if now - r < 50 then c else c.wheelJudged i now rev := by
  unfold Capture.wheelEdge
  dsimp only
  rw [h]
  rfl

/-- The capture unit after an edge within the zero-rate timeout. -/
theorem State.takeEdge_capture {s : State} {k : Pulse}
    (h : ∀ b, (s.capture.input k).zeroTimer = some b → s.now ≤ b + ms (s.cfg.zeroTimeout k)) :
    (s.takeEdge k).capture =
      if k = .wheel then s.capture.wheelEdge s.cfg s.now s.pins.wheelB
      else s.capture.setInput k ((s.capture.input k).edge s.cfg k s.now) := by
  unfold State.takeEdge
  rw [PulseInput.overdue_of_within h]
  dsimp only
  rw [Capture.setInput_self]
  cases k <;> rfl

section Edge

variable {s : State} {k : Pulse}
  (h : ∀ b, (s.capture.input k).zeroTimer = some b → s.now ≤ b + ms (s.cfg.zeroTimeout k))
include h

/-- Too close to the reference edge, an edge is rejected (R141). -/
theorem State.takeEdge_of_rejected {r : Micros} (hr : (s.capture.input k).reference = some r) (hlt : s.now - r < 50) :
    (s.takeEdge k).capture = s.capture := by
  rw [State.takeEdge_capture h]
  split
  · subst ‹k = .wheel›
    rw [Capture.wheelEdge_of_reference hr, if_pos hlt]
  · rw [PulseInput.edge_of_reference hr, if_pos hlt, Capture.setInput_self]

/-- The first edge becomes the reference (R141), also where WHEEL_B has changed (R142). -/
theorem State.takeEdge_of_first (hr : (s.capture.input k).reference = none) :
    (s.takeEdge k).capture.input k = (s.capture.input k).first s.now ∨
      (s.takeEdge k).capture.input k = (s.capture.input k).restartAt s.now := by
  rw [State.takeEdge_capture h]
  split
  · subst ‹k = .wheel›
    rw [Capture.wheelEdge_of_first hr, Capture.wheelJudged]
    split
    · exact .inr rfl
    · exact .inl (PulseInput.edge_of_first hr _ _ _)
  · rw [Capture.setInput_input, PulseInput.edge_of_first hr]
    exact .inl rfl

/-- A reversing WHEEL edge empties the history and takes the direction (R142). -/
theorem State.takeEdge_of_reversed {r : Micros} (hk : k = .wheel) (hr : (s.capture.input k).reference = some r)
    (hge : 50 ≤ s.now - r) (hrev : s.pins.wheelB ≠ s.capture.reverse) :
    (s.takeEdge k).capture = { s.capture with wheel := s.capture.wheel.restartAt s.now, reverse := s.pins.wheelB } := by
  subst hk
  rw [State.takeEdge_capture h, if_pos rfl, Capture.wheelEdge_of_reference hr, if_neg (Nat.not_lt.mpr hge),
    Capture.wheelJudged, if_pos (by simpa using hrev)]

/-- Any other edge forms a period (R143). -/
theorem State.takeEdge_of_period {r : Micros} (hk : k ≠ .wheel ∨ s.pins.wheelB = s.capture.reverse)
    (hr : (s.capture.input k).reference = some r) (hge : 50 ≤ s.now - r) :
    (s.takeEdge k).capture = s.capture.setInput k ((s.capture.input k).period s.cfg k r s.now) := by
  have he : (s.capture.input k).edge s.cfg k s.now = (s.capture.input k).period s.cfg k r s.now := by
    rw [PulseInput.edge_of_reference hr, if_neg (Nat.not_lt.mpr hge)]
  rw [State.takeEdge_capture h]
  split
  · subst ‹k = .wheel›
    rw [Capture.wheelEdge_of_reference hr, if_neg (Nat.not_lt.mpr hge), Capture.wheelJudged,
      if_neg (by simpa using hk.resolve_left (not_not.mpr rfl)), ← he]
    rfl
  · rw [he]

/-- An edge that is not rejected becomes the reference, and the zero-rate timer starts (R141, R144). -/
theorem State.takeEdge_marks {r : Micros} (hr : (s.capture.input k).reference = some r) (hge : 50 ≤ s.now - r) :
    ((s.takeEdge k).capture.input k).reference = some s.now ∧ ((s.takeEdge k).capture.input k).zeroTimer = some s.now := by
  by_cases hk : k ≠ .wheel ∨ s.pins.wheelB = s.capture.reverse
  · rw [State.takeEdge_of_period h hk hr hge, Capture.setInput_input]
    exact ⟨rfl, rfl⟩
  · obtain ⟨hw, hrev⟩ := not_or.mp hk
    rw [State.takeEdge_of_reversed h (not_not.mp hw) hr hge hrev, not_not.mp hw]
    exact ⟨rfl, rfl⟩

/-- An edge touches its own input alone. -/
theorem State.takeEdge_input_ne {j : Pulse} (hj : j ≠ k) : (s.takeEdge k).capture.input j = s.capture.input j := by
  rw [State.takeEdge_capture h]
  split
  · subst ‹k = .wheel›
    have hwheel (c : Capture) (x : PulseInput) (b : Bool) : Capture.input { c with wheel := x, reverse := b } j = c.input j := by
      cases j
      case wheel => exact absurd rfl hj
      all_goals rfl
    have hjudged : (s.capture.wheelJudged s.cfg s.now s.pins.wheelB).input j = s.capture.input j := by
      unfold Capture.wheelJudged
      split <;> exact hwheel _ _ _
    cases hr : s.capture.wheel.reference with
    | none => rw [Capture.wheelEdge_of_first hr, hjudged]
    | some r =>
      rw [Capture.wheelEdge_of_reference hr]
      split
      · rfl
      · exact hjudged
  · exact Capture.setInput_input_ne _ hj _

end Edge

/-- Settles O55: an edge within the zero-rate timeout, and the timeout itself. -/
theorem edgesFormPeriodsAndRates : Obligations.EdgesFormPeriodsAndRates := by
  refine ⟨fun m k s ht hc hz => ?_, fun m k b s ht hc hz hle => ?_⟩
  · refine ⟨_, exec_of_due (due := fun a => a.captures k) ht hc rfl, ?_⟩
    have hz : ∀ b, ((s.arrive m).capture.input k).zeroTimer = some b →
        (s.arrive m).now ≤ b + ms ((s.arrive m).cfg.zeroTimeout k) := hz
    rw [State.finish_capture, State.finish_conv, State.finish_peers, State.finish_ctl, State.settle_ctl_bare, State.finish_now,
      State.finish_link_of_state (by simp)]
    have hk := (s.arrive m).takeEdge_keeps k
    obtain ⟨know, -, -, kdrive, kb0, kb1, kration, kspray, -, kpeers, klink, kctl, kconv, -⟩ := hk
    rw [kpeers, klink, kctl, kconv, know]
    refine ⟨fun j hj => State.takeEdge_input_ne hz hj, ⟨?_, ?_, ?_, ?_, ?_⟩, rfl, rfl, rfl, rfl, fun hr => ?_, fun r hr hlt => ?_,
      fun r hr hge => ⟨?_, ?_, fun hw => ⟨?_, fun hrev => ?_⟩, fun hw => ?_⟩⟩
    · rw [State.finish_drive, kdrive]; rfl
    · rw [State.finish_brush0, kb0]; rfl
    · rw [State.finish_brush1, kb1]; rfl
    · rw [State.finish_ration, kration]; rfl
    · rw [State.finish_spray, kspray]; rfl
    · obtain he | he := State.takeEdge_of_first hz hr <;> rw [he]
      · exact ⟨rfl, rfl, rfl, fun h1 h2 => ⟨h1, h2⟩⟩
      · exact ⟨rfl, rfl, rfl, fun _ _ => ⟨rfl, rfl⟩⟩
    · exact State.takeEdge_of_rejected hz hr hlt
    · exact (State.takeEdge_marks hz hr hge).1
    · exact (State.takeEdge_marks hz hr hge).2
    · by_cases hrev : m.pins.wheelB = s.capture.reverse
      · rw [State.takeEdge_of_period hz (.inr hrev) hr hge, hw]
        exact hrev.symm
      · rw [State.takeEdge_of_reversed hz hw hr hge hrev]
        rfl
    · rw [State.takeEdge_of_reversed hz hw hr hge hrev]
      refine ⟨rfl, ?_⟩
      unfold Capture.pace
      dsimp only [PulseInput.restartAt]
      split <;> rfl
    · rw [State.takeEdge_of_period hz hw hr hge, Capture.setInput_input]
      refine ⟨_, rfl, rfl, ?_⟩
      show (s.arrive m).cfg.rateOf k (joinPeriod _ _) = _
      unfold Image.rateOf
      rw [if_neg (by simpa using joinPeriod_ne_nil _ _)]
      cases k <;> rfl
  · have hd : ((s.arrive m).captures k &&
        ranFor ((s.arrive m).capture.input k).zeroTimer (s.arrive m).now (ms ((s.arrive m).cfg.zeroTimeout k))) = true := by
      rw [Bool.and_eq_true]
      exact ⟨hc, ranFor_of_le hz hle⟩
    refine ⟨_, exec_of_due ht (due := fun a => a.captures k &&
      ranFor (a.capture.input k).zeroTimer a.now (ms (a.cfg.zeroTimeout k))) hd rfl, ?_⟩
    rw [State.finish_capture, State.finish_conv]
    refine ⟨Capture.setInput_input .., fun j hj => Capture.setInput_input_ne _ hj _, ?_, ⟨?_, ?_, ?_, ?_, ?_⟩, rfl⟩
    · cases k <;> rfl
    · exact State.finish_drive ..
    · exact State.finish_brush0 ..
    · exact State.finish_brush1 ..
    · exact State.finish_ration ..
    · exact State.finish_spray ..

end Sys2Proof.Machine

/-! What the writes of a channel leave of the outputs, and the faults that the brush and spray channels post (09, section 9.1;
02, section 2.8; 04, section 4.7). -/

namespace Sys2Proof.Machine

/-! ### The outputs after a channel's write -/

theorem State.setBrush_out_coil (s : State) (c : Chan) (b : Brush) :
    (s.setBrush c b).out.coil (valveOf c) = { s.out.coil (valveOf c) with shadow := b.lastDuty } := by
  cases c <;> rfl

theorem State.setBrush_out_coil_ne (s : State) {c : Chan} (b : Brush) {d : Coil} (h : d ≠ valveOf c) :
    (s.setBrush c b).out.coil d = s.out.coil d := by
  cases c <;> cases d <;> first | rfl | exact absurd rfl h

theorem State.setBrush_out_lift (s : State) (c : Chan) (b : Brush) :
    (s.setBrush c b).out.lift c = b.lifting ∧ (s.setBrush c b).out.float c = b.state.working := by
  cases c <;> exact ⟨rfl, rfl⟩

theorem State.setBrush_out_lift_ne (s : State) {c d : Chan} (b : Brush) (h : d ≠ c) :
    (s.setBrush c b).out.lift d = s.out.lift d ∧ (s.setBrush c b).out.float d = s.out.float d := by
  cases c <;> cases d <;> first | exact ⟨rfl, rfl⟩ | exact absurd rfl h

theorem State.setBrush_out_switched (s : State) (c : Chan) (b : Brush) :
    (s.setBrush c b).out.parkRelease = s.out.parkRelease ∧ (s.setBrush c b).out.supply = s.out.supply := by
  cases c <;> exact ⟨rfl, rfl⟩

theorem State.setSpray_out_coil_ne (s : State) (x : Spray) {d : Coil} (h : d ≠ .pump) :
    (s.setSpray x).out.coil d = s.out.coil d := by
  cases d
  case pump => exact absurd rfl h
  all_goals rfl

theorem State.setSpray_out_lift (s : State) (x : Spray) (c : Chan) :
    (s.setSpray x).out.lift c = s.out.lift c ∧ (s.setSpray x).out.float c = s.out.float c := by
  cases c <;> exact ⟨rfl, rfl⟩

theorem valveOf_ne {c d : Chan} (h : d ≠ c) : valveOf d ≠ valveOf c := by
  cases c <;> cases d <;> first | decide | exact absurd rfl h

/-! ### An arm that is off (R28) -/

theorem State.armOff_setBrush {s : State} {c : Chan} {b : Brush} (hl : b.lifting = false) (hw : b.state.working = false)
    (hd : b.lastDuty = 0) : (s.setBrush c b).out.armOff c := by
  obtain ⟨h1, h2⟩ := s.setBrush_out_lift c b
  exact ⟨h1.trans hl, h2.trans hw, by rw [State.setBrush_out_coil]; exact hd⟩

theorem State.armOff_setBrush_ne {s : State} {c d : Chan} (h : s.out.armOff d) (b : Brush) (hne : d ≠ c) :
    (s.setBrush c b).out.armOff d := by
  obtain ⟨h1, h2, h3⟩ := h
  obtain ⟨k1, k2⟩ := s.setBrush_out_lift_ne b hne
  exact ⟨k1.trans h1, k2.trans h2, by rw [State.setBrush_out_coil_ne _ _ (valveOf_ne hne)]; exact h3⟩

theorem State.armOff_setSpray {s : State} {c : Chan} (h : s.out.armOff c) (x : Spray) : (s.setSpray x).out.armOff c := by
  obtain ⟨h1, h2, h3⟩ := h
  obtain ⟨k1, k2⟩ := s.setSpray_out_lift x c
  refine ⟨k1.trans h1, k2.trans h2, ?_⟩
  rw [State.setSpray_out_coil_ne _ _ (by cases c <;> decide)]
  exact h3

theorem State.armOff_settle {s : State} {c : Chan} (h : s.out.armOff c) : s.settle.out.armOff c := by
  obtain ⟨h1, h2, h3⟩ := h
  refine ⟨?_, ?_, ?_⟩
  · rw [← h1]; cases c <;> rfl
  · rw [← h2]; cases c <;> rfl
  · rw [State.settle_out_coil, CoilOut.forced_shadow, h3]

theorem State.armOff_finish {s : State} {c : Chan} (h : s.out.armOff c) (b : LinkState) : (s.finish b).out.armOff c := by
  rw [State.finish_out]
  exact State.armOff_settle h

/-- With the motor off and a state that neither works nor raises, the arm is off. -/
theorem Brush.lifting_of_state {b : Brush} (h : b.state ≠ .raising) : b.lifting = false := by
  simp [Brush.lifting, h]

theorem State.finish_brush_eq (s : State) (b : LinkState) : (s.finish b).brush = s.brush := by
  funext c
  cases c
  · exact State.finish_brush0 ..
  · exact State.finish_brush1 ..

/-! ### A brush fault of the common rule (R47, R135) -/

theorem Brush.enterFault_state (b : Brush) (now : Micros) (code : FaultCode) (st : RecordState) :
    (b.enterFault now code st).lifting = false ∧ (b.enterFault now code st).state.working = false ∧
      (b.enterFault now code st).lastDuty = 0 := by
  cases st <;> exact ⟨rfl, rfl, rfl⟩

theorem State.brushFault_eq (s : State) (c : Chan) (code : FaultCode) :
    s.brushFault c code =
      (s.setCtl (s.ctl.post s.now (countedOf c) code).1).setBrush c
        ((s.brush c).enterFault s.now code (s.ctl.post s.now (countedOf c) code).2) := rfl

/-- A channel that can post has posted its fault. -/
theorem State.brushFault_faulted {s : State} {c : Chan} (h : s.brushCanPost c) (code : FaultCode) :
    BrushFaulted s (s.brushFault c code) c code := by
  rw [State.brushFault_eq]
  obtain ⟨h1, h2, h3⟩ := (s.brush c).enterFault_state s.now code (s.ctl.post s.now (countedOf c) code).2
  refine ⟨State.armOff_setBrush h1 h2 h3, by rw [State.setBrush_brush]; rfl, ?_, fun hn => ?_, fun hn => ?_⟩
  · rw [State.setBrush_ctl, State.setCtl_ctl, State.setBrush_now]
    obtain ⟨st, n, he, -⟩ := s.ctl.post_spec s.now (countedOf c) code
    rw [he, Controller.recovery_putRecord, Controller.recovery_setRecovery, if_pos rfl]
    rfl
  · rw [State.setBrush_brush, State.setBrush_ctl, State.setCtl_ctl, Controller.post_of_below h hn, State.setBrush_now]
    refine ⟨rfl, rfl, ?_, ?_⟩
    · rw [Controller.recovery_putRecord, Controller.recovery_setRecovery, if_pos rfl]
    · rw [Controller.record_putRecord, if_pos rfl]
  · rw [State.setBrush_brush, State.setBrush_ctl, State.setCtl_ctl, Controller.post_of_three h hn]
    refine ⟨rfl, ?_, ?_⟩
    · rw [Controller.recovery_putRecord, Controller.recovery_setRecovery, if_pos rfl]
    · rw [Controller.record_putRecord, if_pos rfl]

/-- What follows a posted brush fault, if it leaves the arm, the channel, its record and its count alone. -/
theorem BrushFaulted.congr {s u t : State} {c : Chan} {code : FaultCode} (h : BrushFaulted s u c code) (ho : t.out.armOff c)
    (hb : t.brush c = u.brush c) (hr : t.ctl.recovery (countedOf c) = u.ctl.recovery (countedOf c))
    (hrec : t.ctl.record (sourceOf (countedOf c)) = u.ctl.record (sourceOf (countedOf c))) (hn : t.now = u.now) :
    BrushFaulted s t c code := by
  obtain ⟨-, h2, h3, h4, h5⟩ := h
  unfold BrushFaulted
  dsimp only
  rw [hb, hr, hrec, hn]
  exact ⟨ho, h2, h3, h4, h5⟩

/-- The state before a posting counts with the source's count alone. -/
theorem BrushFaulted.of_count {s s' t : State} {c : Chan} {code : FaultCode} (h : BrushFaulted s t c code)
    (hc : (s'.ctl.recovery (countedOf c)).count = (s.ctl.recovery (countedOf c)).count) : BrushFaulted s' t c code := by
  unfold BrushFaulted at h ⊢
  dsimp only
  rw [hc]
  exact h

theorem BrushFaulted.finish {s u : State} {c : Chan} {code : FaultCode} (h : BrushFaulted s u c code) (b : LinkState) :
    BrushFaulted s (u.finish b) c code := by
  refine h.congr (State.armOff_finish h.1 b) (by rw [State.finish_brush_eq]) ?_ ?_ (State.finish_now ..)
  · rw [State.finish_ctl, State.settle_ctl_recovery]
  · rw [State.finish_ctl, State.settle_ctl_record]

/-! ### A spray fault of the common rule (R85, R135) -/

theorem State.sprayFault_eq (s : State) (x : Spray) (code : FaultCode) :
    s.sprayFault x code =
      (s.setCtl (s.ctl.post s.now .spray code).1).setSpray (x.toFault s.now code (s.ctl.post s.now .spray code).2) := rfl

theorem State.sprayFault_faulted {s : State}
    (h : s.ctl.recordState .spray = none ∨ s.ctl.recordState .spray = some .recovering) (x : Spray) (code : FaultCode) :
    SprayFaulted s (s.sprayFault x code) code := by
  have hrec {st : RecordState} {n : Nat} (he : s.ctl.post s.now .spray code =
      ((s.ctl.setRecovery .spray { count := n, window := some s.now }).putRecord .spray code st, st)) :
      (s.ctl.post s.now .spray code).1.sprayCount = { count := n, window := some s.now } ∧
        (s.ctl.post s.now .spray code).1.record .spray = some { source := .spray, code := code, state := st } := by
    rw [he]
    exact ⟨(Controller.recovery_putRecord _ _ _ _ .spray).trans rfl, by rw [Controller.record_putRecord, if_pos rfl]⟩
  rw [State.sprayFault_eq]
  refine ⟨rfl, rfl, rfl, ?_, fun hn => ?_, fun hn => ?_⟩
  · obtain ⟨st, n, he, -⟩ := s.ctl.post_spec s.now .spray code
    exact congrArg Recovery.window (hrec he).1
  · have he := Controller.post_of_below (k := .spray) (now := s.now) (code := code) h hn
    obtain ⟨h1, h2⟩ := hrec he
    refine ⟨?_, ?_, congrArg Recovery.count h1, h2⟩
    · show (x.toFault s.now code _).state = _
      rw [he]; rfl
    · show (x.toFault s.now code _).recoveryTimer = _
      rw [he]; rfl
  · have he := Controller.post_of_three (k := .spray) (now := s.now) (code := code) h hn
    obtain ⟨h1, h2⟩ := hrec he
    refine ⟨?_, (congrArg Recovery.count h1 :), h2⟩
    show (x.toFault s.now code _).state = _
    rw [he]; rfl

theorem SprayFaulted.congr {s u t : State} {code : FaultCode} (h : SprayFaulted s u code) (hx : t.spray = u.spray)
    (ho : t.out.pump.shadow = 0) (hr : t.ctl.sprayCount = u.ctl.sprayCount)
    (hrec : t.ctl.record .spray = u.ctl.record .spray) (hn : t.now = u.now) : SprayFaulted s t code := by
  obtain ⟨h1, h2, -, h4, h5, h6⟩ := h
  unfold SprayFaulted
  rw [hx, hr, hrec, hn]
  exact ⟨h1, h2, ho, h4, h5, h6⟩

theorem SprayFaulted.finish {s u : State} {code : FaultCode} (h : SprayFaulted s u code) (b : LinkState) :
    SprayFaulted s (u.finish b) code := by
  refine h.congr (State.finish_spray ..) ?_ ?_ ?_ (State.finish_now ..)
  · rw [State.finish_out, State.settle_out_pump_shadow]
    exact h.2.2.1
  · rw [State.finish_ctl, State.settle_ctl_sprayCount]
  · rw [State.finish_ctl, State.settle_ctl_record]

end Sys2Proof.Machine

/-! PWM periods, the coil diagnosis and the supply monitor (08, section 8.5; 09). -/

namespace Sys2Proof.Machine

/-! ### PWM periods (R156) -/

theorem Outputs.coil_setCoil (o : Outputs) (c : Coil) (x : CoilOut) : (o.setCoil c x).coil c = x := by cases c <;> rfl

theorem Outputs.coil_setCoil_ne (o : Outputs) {c d : Coil} (h : d ≠ c) (x : CoilOut) : (o.setCoil c x).coil d = o.coil d := by
  cases c <;> cases d <;> first | rfl | exact absurd rfl h

/-- Only the drive reads a period-start notice: the notice of the old coil ends the hold (R10). -/
theorem State.drivePeriodStart_drive (s : State) (c : Coil) :
    (c = .driveF → s.drive.hold = some .rev → (s.drivePeriodStart c).drive.hold = none) ∧
      (c = .driveR → s.drive.hold = some .fwd → (s.drivePeriodStart c).drive.hold = none) ∧
      (s.drive.hold = none → s.drivePeriodStart c = s) := by
  unfold State.drivePeriodStart
  refine ⟨fun hc hh => ?_, fun hc hh => ?_, fun hh => ?_⟩
  · rw [hc, hh]; rfl
  · rw [hc, hh]; rfl
  · rw [hh]; cases c <;> rfl

theorem State.drivePeriodStart_settled {s : State} (h : s.Settled) (c : Coil) : (s.drivePeriodStart c).Settled := by
  unfold State.drivePeriodStart
  split
  · exact ⟨h.contrib, h.cap, h.silent, h.lamp, h.forcing⟩
  · exact ⟨h.contrib, h.cap, h.silent, h.lamp, h.forcing⟩
  · exact h

theorem Outputs.setCoil_fields (o : Outputs) (c : Coil) (x : CoilOut) :
    (o.setCoil c x).faultLamp = o.faultLamp ∧ (o.setCoil c x).forcing = o.forcing ∧ (o.setCoil c x).supply = o.supply ∧
      (o.setCoil c x).parkRelease = o.parkRelease := by
  cases c <;> exact ⟨rfl, rfl, rfl, rfl⟩

/-- An output stage that differs in one output alone: the figures that follow do not read it. -/
theorem State.Settled.setCoil {s : State} (h : s.Settled) (c : Coil) (x : CoilOut) :
    (s.setOut (s.out.setCoil c x)).Settled := by
  obtain ⟨h1, h2, h3, -⟩ := s.out.setCoil_fields c x
  refine ⟨h.contrib, h.cap, h.silent, h1.trans h.lamp, h2.trans (h.forcing.trans ?_)⟩
  show _ = (_ || _ || ((s.out.setCoil c x).supply == .low))
  rw [h3]
  rfl

/-- A period start keeps the exclusions, and starts no output that forcing holds (R10, R28, R158). -/
theorem Outputs.Wf.periodStart {o : Outputs} (h : o.Wf) (c : Coil) (now : Micros) :
    (o.setCoil c ((o.coil c).periodStart now o.forcing)).Wf := by
  refine ⟨?_, ?_, ?_, fun hf d => ?_⟩
  · cases c <;> exact h.arm0
  · cases c <;> exact h.arm1
  · cases c <;> exact h.drive
  · rw [(o.setCoil_fields c _).2.1] at hf
    by_cases hd : d = c
    · subst hd
      rw [Outputs.coil_setCoil]
      exact ⟨by simp [CoilOut.periodStart, hf], (h.forced hf d).2⟩
    · rw [Outputs.coil_setCoil_ne _ hd]
      exact h.forced hf d

theorem pwmStart_settled {s : State} (h : s.Settled) (c : Coil) : (s.pwmStart c).Settled :=
  State.drivePeriodStart_settled (h.setCoil c _) c

/-- Settles O58: what a running output shows, and what a period start loads. -/
theorem periodStartLoadsTheDuty : Obligations.PeriodStartLoadsTheDuty := by
  refine ⟨fun c now b s hf hs hr hb => ?_, fun m c b s ht hset ho hb hle => ?_⟩
  · have hactive : s.coilActive c now =
        (decide (1000 ≤ (s.out.coil c).duty) ||
          decide ((now - b) * 1000 < (s.out.coil c).duty * ((s.cfg.coil c).period * 100))) := by
      unfold State.coilActive
      dsimp only
      rw [hf, hs, hr, hb]
      rfl
    rw [hactive]
    refine ⟨fun h => by simp [h], fun h => ?_⟩
    simp [Nat.not_le.mpr h]
  · have hd : (s.arrive m).pwmDue c = true := ranFor_of_le hb hle
    have hset' : ((s.arrive m).pwmStart c).Settled := pwmStart_settled (hset.arrive m) c
    have hout : ((s.arrive m).pwmStart c).out =
        s.out.setCoil c ((s.out.coil c).periodStart (s.now + m.dt) s.out.forcing) :=
      (State.drivePeriodStart_keeps _ c).2.2.2.2.2.2.2.2.2.2.2.2.2.1
    have hwf : ((s.arrive m).pwmStart c).out.Wf := by rw [hout]; exact ho.periodStart c _
    refine ⟨_, exec_of_due_settled (due := fun a => a.pwmDue c) ht hd rfl rfl hset' hwf (by simp), ?_⟩
    have hcoil : ((s.arrive m).pwmStart c).out.coil c = (s.out.coil c).periodStart (s.now + m.dt) s.out.forcing := by
      rw [hout, Outputs.coil_setCoil]
    obtain ⟨h1, h2, h3⟩ := ((s.arrive m).setOut (s.out.setCoil c
      ((s.out.coil c).periodStart (s.now + m.dt) s.out.forcing))).drivePeriodStart_drive c
    rw [hcoil]
    refine ⟨rfl, rfl, ?_, fun h => ?_, fun h => ?_, fun h => ?_, fun h => ?_, rfl, fun d hd => ?_, h1, h2,
      fun h => (congrArg State.drive (h3 h) :), ?_, ?_, ?_⟩
    · simp [CoilOut.periodStart]
    · simp [CoilOut.periodStart, h]
    · simp [CoilOut.periodStart, h]
    · simp [CoilOut.periodStart, h]
    · simp [CoilOut.periodStart, Nat.not_lt.mpr h]
    · rw [hout, Outputs.coil_setCoil_ne _ hd]
    · simp
    · simp
    · simp

end Sys2Proof.Machine

/-! The coil diagnosis: a sense conversion's tests and the owner's report (09, section 9.4). -/

namespace Sys2Proof.Machine

/-! ### What a report leaves of the outputs -/

/-- Of every proportional output only the shadow may differ. -/
def Outputs.SameButShadows (o p : Outputs) : Prop := ∀ c, p.coil c = { o.coil c with shadow := (p.coil c).shadow }

theorem Outputs.SameButShadows.refl (o : Outputs) : o.SameButShadows o := fun _ => rfl

theorem State.driveOff_shadows (s : State) : s.out.SameButShadows s.driveOff.out := by intro c; cases c <;> rfl

theorem State.setBrush_shadows (s : State) (c : Chan) (b : Brush) : s.out.SameButShadows (s.setBrush c b).out := by
  intro d; cases c <;> cases d <;> rfl

theorem State.setSpray_shadows (s : State) (x : Spray) : s.out.SameButShadows (s.setSpray x).out := by intro d; cases d <;> rfl

/-! ### The drive takes a report (R18) -/

theorem State.driveCoilReport_of_held {s : State}
    (h : s.drive.state = .standstill ∨ s.drive.state = .driving ∨ s.drive.state = .turning ∨ s.drive.state = .held)
    (code : FaultCode) :
    s.driveCoilReport code =
      ((s.setDrive { s.drive.halted with state := .latched, coilLatch := true }).driveOff).postDrive code := by
  unfold State.driveCoilReport
  rcases h with h | h | h | h <;> rw [h]

theorem State.driveCoilReport_of_latched {s : State} (h : s.drive.state = .latched) (code : FaultCode) :
    s.driveCoilReport code = s.postDrive code := by
  unfold State.driveCoilReport
  rw [h]

theorem State.driveCoilReport_of_yielded {s : State} (h : s.drive.state = .yielded) (code : FaultCode) :
    s.driveCoilReport code = (s.setDrive { s.drive with coilLatch := true }).postDrive code := by
  unfold State.driveCoilReport
  rw [h]

theorem State.driveCoilReport_of_disabled {s : State} (h : s.drive.state = .disabled) (code : FaultCode) :
    s.driveCoilReport code = s := by
  unfold State.driveCoilReport
  rw [h]

theorem DriveState.reported_cases (x : DriveState) :
    (x = .standstill ∨ x = .driving ∨ x = .turning ∨ x = .held) ∨ x = .latched ∨ x = .yielded ∨ x = .disabled := by
  cases x <;> decide

theorem State.driveCoilReport_shadows (s : State) (code : FaultCode) : s.out.SameButShadows (s.driveCoilReport code).out := by
  rcases s.drive.state.reported_cases with h | h | h | h
  · rw [State.driveCoilReport_of_held h]
    exact (s.setDrive _).driveOff_shadows
  · rw [State.driveCoilReport_of_latched h]
    exact .refl _
  · rw [State.driveCoilReport_of_yielded h]
    exact .refl _
  · rw [State.driveCoilReport_of_disabled h]
    exact .refl _

/-- The record that a report leaves: LATCHED with the report's code, unless the drive is DISABLED. -/
theorem State.driveCoilReport_record {s : State} (h : s.drive.state ≠ .disabled) (code : FaultCode) :
    (s.driveCoilReport code).ctl.record .drive = some { source := .drive, code := code, state := .latched } := by
  have hput (x : Controller) : (x.putRecord .drive code .latched).record .drive =
      some { source := .drive, code := code, state := .latched } := by
    rw [Controller.record_putRecord, if_pos rfl]
  rcases s.drive.state.reported_cases with h' | h' | h' | h'
  · rw [State.driveCoilReport_of_held h']
    exact hput _
  · rw [State.driveCoilReport_of_latched h']
    exact hput _
  · rw [State.driveCoilReport_of_yielded h']
    exact hput _
  · exact absurd h' h

/-- A LATCHED drive contributes 0 to the own cap (R23). -/
theorem State.settle_ownCap_of_latched {s : State} (h : s.drive.state = .latched) : s.settle.ctl.ownCap = 0 := by
  rw [State.settle_ctl_eq]
  dsimp only
  split
  · rfl
  · refine Nat.le_zero.mp (least_le (List.mem_cons_of_mem _ ?_))
    simp [Contributions.values, State.contributions, h]

/-! ### A brush channel and the spray channel take a report (R50, R88) -/

theorem State.brushCoilReport_of_live {s : State} {c : Chan}
    (h : (s.brush c).state = .stowed ∨ (s.brush c).state = .descending ∨ (s.brush c).state = .sweeping ∨
      (s.brush c).state = .raising ∨ (s.brush c).state = .waiting) (code : FaultCode) :
    s.brushCoilReport c code = s.brushFault c code := by
  unfold State.brushCoilReport
  rcases h with h | h | h | h | h <;> rw [h]

theorem State.brushCoilReport_of_absorbed {s : State} {c : Chan}
    (h : (s.brush c).state = .disabled ∨ (s.brush c).state = .held ∨ (s.brush c).state = .fault ∨ (s.brush c).state = .latched)
    (code : FaultCode) : s.brushCoilReport c code = s := by
  unfold State.brushCoilReport
  rcases h with h | h | h | h <;> rw [h]

theorem BrushState.reported_cases (x : BrushState) :
    (x = .stowed ∨ x = .descending ∨ x = .sweeping ∨ x = .raising ∨ x = .waiting) ∨
      x = .disabled ∨ x = .held ∨ x = .fault ∨ x = .latched := by
  cases x <;> decide

theorem State.brushCoilReport_shadows (s : State) (c : Chan) (code : FaultCode) :
    s.out.SameButShadows (s.brushCoilReport c code).out := by
  rcases (s.brush c).state.reported_cases with h | h
  · rw [State.brushCoilReport_of_live h, State.brushFault_eq]
    exact (s.setCtl _).setBrush_shadows c _
  · rw [State.brushCoilReport_of_absorbed h]
    exact .refl _

theorem SprayState.live_iff (x : SprayState) :
    x.live = true ↔ x = .off ∨ x = .priming ∨ x = .spraying ∨ x = .paused ∨ x = .empty := by
  cases x <;> simp [SprayState.live]

theorem SprayState.not_live_iff (x : SprayState) :
    x.live = false ↔ x = .disabled ∨ x = .held ∨ x = .fault ∨ x = .latched := by
  cases x <;> simp [SprayState.live]

theorem State.sprayCoilReport_of_live {s : State} (h : s.spray.state.live = true) (code : FaultCode) :
    s.sprayCoilReport code = s.sprayFault s.spray code := by
  unfold State.sprayCoilReport
  rw [if_pos h]

theorem State.sprayCoilReport_of_absorbed {s : State} (h : s.spray.state.live = false) (code : FaultCode) :
    s.sprayCoilReport code = s := by
  unfold State.sprayCoilReport
  rw [h]
  rfl

theorem State.sprayCoilReport_shadows (s : State) (code : FaultCode) : s.out.SameButShadows (s.sprayCoilReport code).out := by
  cases h : s.spray.state.live
  · rw [State.sprayCoilReport_of_absorbed h]
    exact .refl _
  · rw [State.sprayCoilReport_of_live h, State.sprayFault_eq]
    exact (s.setCtl _).setSpray_shadows _

theorem State.coilReport_shadows (s : State) (c : Coil) (code : FaultCode) : s.out.SameButShadows (s.coilReport c code).out := by
  cases c
  · exact s.driveCoilReport_shadows code
  · exact s.driveCoilReport_shadows code
  · exact s.brushCoilReport_shadows .c0 code
  · exact s.brushCoilReport_shadows .c1 code
  · exact s.sprayCoilReport_shadows code

/-! ### The owner's report whole -/

section Report

variable {s u : State} (hd : u.drive = s.drive) (hb : u.brush = s.brush) (hx : u.spray = s.spray) (hc : u.ctl = s.ctl)
include hc

section Drive

include hd

theorem State.driveReported (b : LinkState) (c : Coil) (code : FaultCode) (hcoil : c = .driveF ∨ c = .driveR) :
    CoilReported s ((u.driveCoilReport code).finish b) c code := by
  have hrep : CoilReported s ((u.driveCoilReport code).finish b) .driveF code := by
    refine ⟨fun h => ?_, fun h => ?_, fun h => ?_, fun h => ?_, fun h => ?_⟩ <;> rw [← hd] at h
    · rw [State.driveCoilReport_of_held h, State.finish_drive, State.finish_out, State.finish_ctl]
      exact ⟨rfl, rfl, rfl, rfl, rfl, rfl, State.settle_out_driveF_shadow _, State.settle_out_driveR_shadow _, rfl,
        State.settle_ownCap_of_latched rfl⟩
    · rw [State.driveCoilReport_of_latched h, State.finish_drive, ← hd]
      rfl
    · rw [State.driveCoilReport_of_yielded h, State.finish_drive, ← hd]
      rfl
    · rw [State.finish_ctl, State.settle_ctl_record, State.driveCoilReport_record h]
    · rw [State.driveCoilReport_of_disabled h, State.finish_drive, State.finish_ctl, State.settle_ctl_faults, hd, hc]
      exact ⟨rfl, rfl⟩
  rcases hcoil with rfl | rfl <;> exact hrep

end Drive

section Brush

include hb

/-- A brush channel's part of a report. -/
theorem State.brushReported (b : LinkState) (c : Chan) (code : FaultCode) :
    ((s.brush c).state = .stowed ∨ (s.brush c).state = .descending ∨ (s.brush c).state = .sweeping ∨
        (s.brush c).state = .raising ∨ (s.brush c).state = .waiting →
      s.brushCanPost c → BrushFaulted s ((u.brushCoilReport c code).finish b) c code) ∧
    ((s.brush c).state = .disabled ∨ (s.brush c).state = .held ∨ (s.brush c).state = .fault ∨ (s.brush c).state = .latched →
      ((u.brushCoilReport c code).finish b).brush c = s.brush c ∧
        ((u.brushCoilReport c code).finish b).ctl.faults = s.ctl.faults) := by
  rw [← hb]
  refine ⟨fun h hp => ?_, fun h => ?_⟩
  · have hp' : u.brushCanPost c := by
      unfold State.brushCanPost at hp ⊢
      rw [hc]
      exact hp
    rw [State.brushCoilReport_of_live h]
    exact ((State.brushFault_faulted hp' code).of_count (by rw [hc])).finish b
  · rw [State.brushCoilReport_of_absorbed h, State.finish_brush_eq, State.finish_ctl, State.settle_ctl_faults, hc]
    exact ⟨rfl, rfl⟩

end Brush

section Spray

include hx

theorem State.sprayReported (b : LinkState) (code : FaultCode) :
    CoilReported s ((u.sprayCoilReport code).finish b) .pump code := by
  refine ⟨fun h hp => ?_, fun h => ?_⟩ <;> rw [← hx] at h
  · rw [State.sprayCoilReport_of_live ((SprayState.live_iff _).mpr h)]
    have hf := (State.sprayFault_faulted (s := u) (by rw [hc]; exact hp) u.spray code).finish b
    unfold SprayFaulted at hf
    rw [hc] at hf
    exact hf
  · rw [State.sprayCoilReport_of_absorbed ((SprayState.not_live_iff _).mpr h), State.finish_spray, State.finish_ctl,
      State.settle_ctl_faults, hx, hc]
    exact ⟨rfl, rfl⟩

end Spray

include hd hb hx

theorem State.coilReported (b : LinkState) (c : Coil) (code : FaultCode) :
    CoilReported s ((u.coilReport c code).finish b) c code := by
  cases c
  · exact State.driveReported hd hc b .driveF code (.inl rfl)
  · exact State.driveReported hd hc b .driveR code (.inr rfl)
  · exact State.brushReported hb hc b .c0 code
  · exact State.brushReported hb hc b .c1 code
  · exact State.sprayReported hx hc b code

end Report

/-! ### A sense conversion (R159, R160) -/

theorem State.single_of_sense {s : State} {k : Slot} {c : Coil} (hp : s.conv.place = some k) (hk : k.coil = some c)
    (code : Byte) :
    s.single code = (s.setConv (s.conv.write k (singleEntry k code)).advance).diagnose c (code.toNat * 16) := by
  unfold State.single State.afterSingle
  rw [hp]
  dsimp only
  rw [hk]

theorem State.diagnose_of_short {s : State} {c : Coil} {v : Nat} (h : s.shortMet c v = true) :
    s.diagnose c v =
      (s.setOut (s.out.setCoil c { s.out.coil c with shortOff := true, openTimer := none })).coilReport c .coilShort := by
  unfold State.diagnose
  dsimp only
  rw [if_pos h]

theorem State.diagnose_of_open {s : State} {c : Coil} {v : Nat} (h : s.openMet c v = true) :
    s.diagnose c v =
      (s.setOut (s.out.setCoil c { s.out.coil c with openArmed := false, openTimer := none })).coilReport c .coilOpen := by
  have hs : s.shortMet c v = false := by
    unfold State.openMet at h
    rw [Bool.and_eq_true, Bool.not_eq_true'] at h
    exact h.1
  unfold State.diagnose
  dsimp only
  rw [if_neg (by rw [hs]; nofun), if_pos h]

theorem State.shortMet_of {s : State} {c : Coil} {v : Nat} (hf : s.out.forcing = false) (hs : (s.out.coil c).shortOff = false)
    (hv : (s.cfg.coil c).shortLevel < v) (hd : 0 < (s.out.coil c).duty) : s.shortMet c v = true := by
  simp [State.shortMet, hf, hs, hv, hd]

theorem State.openMet_of {s : State} {c : Coil} {v : Nat} {b : Micros} (hf : s.out.forcing = false)
    (hs : (s.out.coil c).shortOff = false) (hv : v ≤ (s.cfg.coil c).shortLevel) (ho : v < (s.cfg.coil c).openLevel)
    (hd : 200 ≤ (s.out.coil c).duty) (ha : (s.out.coil c).openArmed = true) (hb : (s.out.coil c).openTimer = some b)
    (hle : b + 200000 ≤ s.now) : s.openMet c v = true := by
  have ht : s.openTiming c v = some b := by
    unfold State.openTiming
    dsimp only
    rw [hb]
    simp [runWhile, hf, hs, ho, hd, ha]
  have hn : s.shortMet c v = false := by simp [State.shortMet, Nat.not_lt.mpr hv]
  unfold State.openMet
  rw [hn, ranFor_of_le (d := ms 200) ht hle]
  rfl

/-- A report on an output, at the end of the event: the output's marks, and the owner's part. -/
theorem State.coilReport_finish {s a : State} (hd : a.drive = s.drive) (hb : a.brush = s.brush) (hx : a.spray = s.spray)
    (hc : a.ctl = s.ctl) (c : Coil) (code : FaultCode) {x : CoilOut} (ht : x.openTimer = none) (b : LinkState) :
    let t := ((a.setOut (a.out.setCoil c x)).coilReport c code).finish b
    (t.out.coil c).shortOff = x.shortOff ∧ (t.out.coil c).openArmed = x.openArmed ∧ (t.out.coil c).openTimer = none ∧
      CoilReported s t c code := by
  intro t
  have h := (a.setOut (a.out.setCoil c x)).coilReport_shadows c code c
  rw [State.setOut_out, Outputs.coil_setCoil] at h
  have hcoil : t.out.coil c = (((a.setOut (a.out.setCoil c x)).coilReport c code).out.coil c).forced
      ((a.setOut (a.out.setCoil c x)).coilReport c code).forcingOn := by
    rw [← State.settle_out_coil, ← State.finish_out b]
  rw [hcoil, CoilOut.forced_shortOff, CoilOut.forced_openArmed, h]
  refine ⟨rfl, rfl, ?_, State.coilReported (u := a.setOut (a.out.setCoil c x)) hd hb hx hc b c code⟩
  unfold CoilOut.forced
  split
  · rfl
  · exact ht

/-- Settles O59: a short and an open coil at each of the five sense conversions. -/
theorem coilFaultsAreReported : Obligations.CoilFaultsAreReported := by
  intro m code k c s ht hm hp hkc hf hso
  have hk : k.coil = some c ∧ k.kind = .single := by
    rcases hkc with ⟨rfl, rfl⟩ | ⟨rfl, rfl⟩ | ⟨rfl, rfl⟩ | ⟨rfl, rfl⟩ | ⟨rfl, rfl⟩ <;> exact ⟨rfl, rfl⟩
  obtain ⟨hk, hkind⟩ := hk
  have hpa : (s.arrive m).conv.place = some k := hp
  obtain ⟨a, hsingle, hdrive, hbrush, hspray, hctl, hout, hcfg, hnow⟩ : ∃ a : State,
      (s.arrive m).single code = a.diagnose c (code.toNat * 16) ∧ a.drive = s.drive ∧ a.brush = s.brush ∧ a.spray = s.spray ∧
        a.ctl = s.ctl ∧ a.out = s.out ∧ a.cfg = s.cfg ∧ a.now = s.now + m.dt :=
    ⟨_, State.single_of_sense hpa hk code, rfl, rfl, rfl, rfl, rfl, rfl, rfl⟩
  refine ⟨fun hlevel hduty => ?_, fun hlevel hopen hduty harmed b hb hle => ?_⟩
  · have hd : ((s.arrive m).atKind .single || (s.arrive m).lateDue) = true := by
      rw [State.atKind, hpa, Option.any_some, hkind]
      rfl
    have hshort : a.shortMet c (code.toNat * 16) = true :=
      State.shortMet_of (by rw [hout]; exact hf) (by rw [hout]; exact hso) (by rw [hcfg]; exact hlevel)
        (by rw [hout]; exact hduty)
    refine ⟨_, exec_of_due (due := fun a => a.atKind .single || a.lateDue) ht hd rfl, ?_⟩
    rw [State.singleOrLate_of_mode (s := s.arrive m) hm, hsingle, State.diagnose_of_short hshort]
    obtain ⟨h1, -, h3, h4⟩ := State.coilReport_finish hdrive hbrush hspray hctl c .coilShort
      (x := { a.out.coil c with shortOff := true, openTimer := none }) rfl s.link.state
    exact ⟨h1, h3, h4⟩
  · have hmet : a.openMet c (code.toNat * 16) = true :=
      State.openMet_of (by rw [hout]; exact hf) (by rw [hout]; exact hso) (by rw [hcfg]; exact hlevel)
        (by rw [hcfg]; exact hopen) (by rw [hout]; exact hduty) (by rw [hout]; exact harmed) (by rw [hout]; exact hb)
        (by rw [hnow]; exact hle)
    have hd : (s.arrive m).openDue code = true := by
      unfold State.openDue
      rw [hpa, Option.bind_some, hk]
      exact State.openMet_of (s := s.arrive m) hf hso hlevel hopen hduty harmed hb hle
    refine ⟨_, exec_of_due (due := fun a => a.openDue code) ht hd rfl, ?_⟩
    rw [hsingle, State.diagnose_of_open hmet]
    obtain ⟨-, h2, h3, h4⟩ := State.coilReport_finish hdrive hbrush hspray hctl c .coilOpen
      (x := { a.out.coil c with openArmed := false, openTimer := none }) rfl s.link.state
    exact ⟨h2, h3, h4⟩

end Sys2Proof.Machine

/-! The start and the release of a SUPPLY condition (09, section 9.5). -/

namespace Sys2Proof.Machine

/-! ### The monitor (R161) -/

theorem monitor_start {voltage value : Nat} {b now : Micros} {release : Timer} (hv : value < startLevel voltage)
    (hb : b + 50000 ≤ now) : monitor voltage .normal (some b) release value now = (.low, none, none) := by
  have ht : runWhile (decide (value < startLevel voltage)) (some b) now = some b := by simp [runWhile, hv]
  unfold monitor
  dsimp only
  rw [ht, ranFor_of_le (d := ms 50) rfl hb]
  rfl

theorem monitor_release {voltage value : Nat} {b now : Micros} {start : Timer} (hv : releaseLevel voltage ≤ value)
    (hb : b + 200000 ≤ now) : monitor voltage .low start (some b) value now = (.normal, none, none) := by
  have ht : runWhile (decide (releaseLevel voltage ≤ value)) (some b) now = some b := by simp [runWhile, hv]
  unfold monitor
  dsimp only
  rw [ht, ranFor_of_le (d := ms 200) rfl hb]
  rfl

/-- The state with the monitor's condition set and its timers stopped. -/
def State.withSupply (s : State) (x : SupplyCondition) : State :=
  s.setOut { s.out with supply := x, startTimer := none, releaseTimer := none }

theorem State.superviseSupply_of_start {s : State} {v : Nat} (hn : s.out.supply = .normal)
    (hm : monitor s.cfg.general.voltage .normal s.out.startTimer s.out.releaseTimer v s.now = (.low, none, none)) :
    s.superviseSupply v = (s.withSupply .low).startNotices.makeSupplyRecord := by
  unfold State.superviseSupply
  rw [hn, hm]
  rfl

theorem State.superviseSupply_of_release {s : State} {v : Nat} (hn : s.out.supply = .low)
    (hm : monitor s.cfg.general.voltage .low s.out.startTimer s.out.releaseTimer v s.now = (.normal, none, none)) :
    s.superviseSupply v =
      (s.withSupply .normal).releaseNotices.setCtl ((s.withSupply .normal).releaseNotices.ctl.dropRecord .supply) := by
  unfold State.superviseSupply
  rw [hn, hm]
  rfl

/-- A SUPPLY conversion is the monitor's part on the state with the entry written. -/
theorem State.single_of_supply {s : State} (hp : s.conv.place = some .supply) (hl : s.loader.state = .done) (code : Byte) :
    s.single code =
      (s.setConv (s.conv.write .supply (singleEntry .supply code)).advance).superviseSupply (code.toNat * 16) := by
  have hl' : (s.setConv (s.conv.write .supply (singleEntry .supply code)).advance).loaded = true := beq_iff_eq.mpr hl
  unfold State.single State.afterSingle
  rw [hp]
  exact if_pos ⟨rfl, hl'⟩

/-- The condition that a SUPPLY conversion in the scan leaves. -/
theorem State.supplyAfter_of_supply {s : State} (hm : s.ctl.mode ≠ .standby) (hp : s.conv.place = some .supply)
    (hl : s.loader.state = .done) (code : Byte) :
    s.supplyAfter code =
      (monitor s.cfg.general.voltage s.out.supply s.out.startTimer s.out.releaseTimer (code.toNat * 16) s.now).1 := by
  unfold State.supplyAfter
  rw [State.lateDue_of_mode hm, if_neg Bool.false_ne_true, if_pos ⟨hp, beq_iff_eq.mpr hl⟩]

/-! ### The start notices (R21, R51, R89) -/

theorem State.driveSupplyStart_of_moving {s : State} (h : s.drive.state.moving = true) :
    s.driveSupplyStart = (s.setDrive { s.drive.halted with state := .held }).driveOff := by
  unfold State.driveSupplyStart
  rw [if_pos h]

theorem State.driveSupplyStart_of_not_moving {s : State} (h : s.drive.state.moving = false) : s.driveSupplyStart = s := by
  unfold State.driveSupplyStart
  rw [if_neg (by rw [h]; nofun)]

theorem State.driveSupplyStart_supply (s : State) : s.driveSupplyStart.out.supply = s.out.supply := by
  unfold State.driveSupplyStart
  split <;> rfl

theorem State.brushSupplyStart_of_live {s : State} {c : Chan}
    (h : (s.brush c).state = .stowed ∨ (s.brush c).state = .descending ∨ (s.brush c).state = .sweeping ∨
      (s.brush c).state = .raising ∨ (s.brush c).state = .waiting) :
    s.brushSupplyStart c = s.setBrush c { (s.brush c).motorOff with state := .held, starved := false } := by
  unfold State.brushSupplyStart
  rcases h with h | h | h | h | h <;> rw [h]

theorem State.brushSupplyStart_of_absorbed {s : State} {c : Chan}
    (h : (s.brush c).state = .disabled ∨ (s.brush c).state = .held ∨ (s.brush c).state = .fault ∨
      (s.brush c).state = .latched) : s.brushSupplyStart c = s := by
  unfold State.brushSupplyStart
  rcases h with h | h | h | h <;> rw [h]

/-- A channel's start notice leaves the other channel, the drive's coils and PARK_RELEASE, and the supply condition. -/
theorem State.brushSupplyStart_others (s : State) (c : Chan) :
    (∀ d, d ≠ c → (s.brushSupplyStart c).brush d = s.brush d ∧ (s.out.armOff d → (s.brushSupplyStart c).out.armOff d)) ∧
      (s.brushSupplyStart c).out.coil .driveF = s.out.coil .driveF ∧
      (s.brushSupplyStart c).out.coil .driveR = s.out.coil .driveR ∧
      (s.brushSupplyStart c).out.parkRelease = s.out.parkRelease ∧
      (s.brushSupplyStart c).out.supply = s.out.supply := by
  rcases (s.brush c).state.reported_cases with h | h
  · rw [State.brushSupplyStart_of_live h]
    obtain ⟨h1, h2⟩ := s.setBrush_out_switched c { (s.brush c).motorOff with state := .held, starved := false }
    refine ⟨fun d hd => ⟨State.setBrush_brush_ne _ _ hd, fun ha => State.armOff_setBrush_ne ha _ hd⟩, ?_, ?_, h1, h2⟩
    · exact State.setBrush_out_coil_ne _ _ (by cases c <;> decide)
    · exact State.setBrush_out_coil_ne _ _ (by cases c <;> decide)
  · rw [State.brushSupplyStart_of_absorbed h]
    exact ⟨fun _ _ => ⟨rfl, id⟩, rfl, rfl, rfl, rfl⟩

theorem State.spraySupplyStart_of_live {s : State} (h : s.spray.state.live = true) :
    s.spraySupplyStart = s.setSpray s.spray.toHeld := by
  unfold State.spraySupplyStart
  rw [if_pos h]

theorem State.spraySupplyStart_of_absorbed {s : State} (h : s.spray.state.live = false) : s.spraySupplyStart = s := by
  unfold State.spraySupplyStart
  rw [if_neg (by rw [h]; nofun)]

theorem State.spraySupplyStart_others (s : State) :
    s.spraySupplyStart.brush = s.brush ∧ (∀ c, s.out.armOff c → s.spraySupplyStart.out.armOff c) ∧
      s.spraySupplyStart.out.coil .driveF = s.out.coil .driveF ∧ s.spraySupplyStart.out.coil .driveR = s.out.coil .driveR ∧
      s.spraySupplyStart.out.parkRelease = s.out.parkRelease ∧ s.spraySupplyStart.out.supply = s.out.supply := by
  cases h : s.spray.state.live
  · rw [State.spraySupplyStart_of_absorbed h]
    exact ⟨rfl, fun _ => id, rfl, rfl, rfl, rfl⟩
  · rw [State.spraySupplyStart_of_live h]
    exact ⟨by funext c; cases c <;> rfl, fun _ ha => State.armOff_setSpray ha _, rfl, rfl, rfl, rfl⟩

/-- The drive after the start notices, with its coils and PARK_RELEASE (R21). -/
theorem State.startNotices_drive (s : State) :
    s.startNotices.drive = s.driveSupplyStart.drive ∧
      s.startNotices.out.coil .driveF = s.driveSupplyStart.out.coil .driveF ∧
      s.startNotices.out.coil .driveR = s.driveSupplyStart.out.coil .driveR ∧
      s.startNotices.out.parkRelease = s.driveSupplyStart.out.parkRelease ∧
      s.startNotices.out.supply = s.out.supply := by
  obtain ⟨-, a1, a2, a3, a4⟩ := s.driveSupplyStart.brushSupplyStart_others .c0
  obtain ⟨-, b1, b2, b3, b4⟩ := (s.driveSupplyStart.brushSupplyStart .c0).brushSupplyStart_others .c1
  obtain ⟨-, -, c1, c2, c3, c4⟩ := ((s.driveSupplyStart.brushSupplyStart .c0).brushSupplyStart .c1).spraySupplyStart_others
  refine ⟨by simp [State.startNotices], c1.trans (b1.trans a1), c2.trans (b2.trans a2), c3.trans (b3.trans a3), ?_⟩
  exact c4.trans (b4.trans (a4.trans s.driveSupplyStart_supply))

theorem State.driveSupplyStart_brush (s : State) : s.driveSupplyStart.brush = s.brush := by
  funext c
  cases c <;> simp [State.brush]

/-- A brush channel after the start notices (R51). -/
theorem State.startNotices_brush (s : State) (c : Chan) :
    (((s.brush c).state = .stowed ∨ (s.brush c).state = .descending ∨ (s.brush c).state = .sweeping ∨
        (s.brush c).state = .raising ∨ (s.brush c).state = .waiting) →
      s.startNotices.brush c = { (s.brush c).motorOff with state := .held, starved := false } ∧
        s.startNotices.out.armOff c) ∧
    (((s.brush c).state = .disabled ∨ (s.brush c).state = .held ∨ (s.brush c).state = .fault ∨
        (s.brush c).state = .latched) → s.startNotices.brush c = s.brush c) := by
  have hb := congrFun s.driveSupplyStart_brush
  obtain ⟨hs, harm, -⟩ := ((s.driveSupplyStart.brushSupplyStart .c0).brushSupplyStart .c1).spraySupplyStart_others
  have hother := ((s.driveSupplyStart.brushSupplyStart .c0).brushSupplyStart_others .c1).1 .c0 (by decide)
  have hother' := (s.driveSupplyStart.brushSupplyStart_others .c0).1 .c1 (by decide)
  have hfinal : s.startNotices.brush c = ((s.driveSupplyStart.brushSupplyStart .c0).brushSupplyStart .c1).brush c :=
    congrFun hs c
  have hoff {t : State} (d : Chan) :
      (t.setBrush d { (t.brush d).motorOff with state := .held, starved := false }).out.armOff d :=
    State.armOff_setBrush rfl rfl rfl
  refine ⟨fun h => ?_, fun h => ?_⟩ <;> rw [hfinal] <;> cases c
  · rw [← hb .c0] at h ⊢
    rw [hother.1]
    refine ⟨?_, harm _ (hother.2 ?_)⟩ <;> rw [State.brushSupplyStart_of_live h]
    · exact State.setBrush_brush ..
    · exact hoff _
  · rw [← hb .c1, ← hother'.1] at h ⊢
    refine ⟨?_, harm _ ?_⟩ <;> rw [State.brushSupplyStart_of_live h]
    · exact State.setBrush_brush ..
    · exact hoff _
  · rw [← hb .c0] at h ⊢
    rw [hother.1, State.brushSupplyStart_of_absorbed h]
  · rw [← hb .c1, ← hother'.1] at h ⊢
    rw [State.brushSupplyStart_of_absorbed h]

/-- The spray channel after the start notices (R89). -/
theorem State.startNotices_spray (s : State) :
    (s.spray.state.live = true → s.startNotices.spray = s.spray.toHeld ∧ s.startNotices.out.pump.shadow = 0) ∧
      (s.spray.state.live = false → s.startNotices.spray = s.spray) := by
  have hk : ((s.driveSupplyStart.brushSupplyStart .c0).brushSupplyStart .c1).spray = s.spray := by simp
  refine ⟨fun h => ?_, fun h => ?_⟩ <;> unfold State.startNotices <;> rw [← hk] at h
  · rw [State.spraySupplyStart_of_live h, ← hk]
    exact ⟨rfl, rfl⟩
  · rw [State.spraySupplyStart_of_absorbed h, hk]

/-! ### The release notices (R21, R51, R89) -/

/-- A HELD channel with its arm up goes to STOWED, and its RECOVERING record is removed. -/
theorem State.brushSupplyRelease_of_up {s : State} {c : Chan} (h : (s.brush c).state = .held) (hu : armUpOf s.pins c = true) :
    s.brushSupplyRelease c =
      (s.setBrush c { (s.brush c).motorOff with state := .stowed, starved := false }).setCtl
        (s.ctl.removeRecovering (sourceOf (countedOf c))) := by
  unfold State.brushSupplyRelease State.setBrushAndRecord
  rw [if_pos h, if_pos hu]
  dsimp only
  rw [if_pos rfl, State.setBrush_ctl]

theorem State.brushSupplyRelease_of_down {s : State} {c : Chan} (h : (s.brush c).state = .held)
    (hu : ¬armUpOf s.pins c = true) : s.brushSupplyRelease c = s.setBrush c ((s.brush c).enterRaising s.now false) := by
  unfold State.brushSupplyRelease
  rw [if_pos h, if_neg hu]

theorem State.brushSupplyRelease_of_other {s : State} {c : Chan} (h : (s.brush c).state ≠ .held) :
    s.brushSupplyRelease c = s := by
  unfold State.brushSupplyRelease
  rw [if_neg h]

/-- What a channel's release notice leaves. -/
theorem State.brushSupplyRelease_others (s : State) (c : Chan) :
    (∀ d, d ≠ c → (s.brushSupplyRelease c).brush d = s.brush d) ∧ (s.brushSupplyRelease c).out.supply = s.out.supply ∧
      (s.brushSupplyRelease c).ctl.mode = s.ctl.mode := by
  have hset (x : Controller) (b : Brush) (d : Chan) (hd : d ≠ c) : ((s.setBrush c b).setCtl x).brush d = s.brush d := by
    rw [← State.setBrush_brush_ne s b hd]
    cases d <;> rfl
  by_cases h : (s.brush c).state = .held
  · by_cases hu : armUpOf s.pins c = true
    · rw [State.brushSupplyRelease_of_up h hu]
      exact ⟨hset _ _, State.setBrush_out_supply .., by simp⟩
    · rw [State.brushSupplyRelease_of_down h hu]
      exact ⟨fun d hd => State.setBrush_brush_ne _ _ hd, State.setBrush_out_supply .., by rw [State.setBrush_ctl]⟩
  · rw [State.brushSupplyRelease_of_other h]
    exact ⟨fun _ _ => rfl, rfl, rfl⟩

theorem State.brushSupplyRelease_state {s : State} {c : Chan} (h : (s.brush c).state = .held) :
    ((s.brushSupplyRelease c).brush c).state = if armUpOf s.pins c = true then .stowed else .raising := by
  split_ifs with hu
  · rw [State.brushSupplyRelease_of_up h hu]
    cases c <;> rfl
  · rw [State.brushSupplyRelease_of_down h hu, State.setBrush_brush]
    rfl

theorem State.spraySupplyRelease_others (s : State) :
    s.spraySupplyRelease.brush = s.brush ∧ s.spraySupplyRelease.out.supply = s.out.supply := by
  unfold State.spraySupplyRelease
  split
  · exact ⟨by funext c; cases c <;> rfl, rfl⟩
  · exact ⟨rfl, rfl⟩

theorem State.driveSupplyRelease_of_held {s : State} (h : s.drive.state = .held) :
    s.driveSupplyRelease.drive.state = .standstill := by
  unfold State.driveSupplyRelease
  rw [if_pos h]
  rfl

theorem State.spraySupplyRelease_of_held {s : State} (h : s.spray.state = .held) :
    s.spraySupplyRelease.spray.state = .off := by
  unfold State.spraySupplyRelease
  rw [if_pos h]
  rfl

theorem State.spraySupplyRelease_ctl (s : State) : s.spraySupplyRelease.ctl = s.ctl := by
  unfold State.spraySupplyRelease
  split <;> rfl

/-- What the release notices leave: every HELD channel on its way back. -/
theorem State.releaseNotices_spec (s : State) :
    (s.drive.state = .held → s.releaseNotices.drive.state = .standstill) ∧
      (s.spray.state = .held → s.releaseNotices.spray.state = .off) ∧
      (∀ c, (s.brush c).state = .held →
        (s.releaseNotices.brush c).state = if armUpOf s.pins c = true then .stowed else .raising) ∧
      s.releaseNotices.out.supply = s.out.supply ∧ s.releaseNotices.ctl.mode = s.ctl.mode := by
  have hb0 : s.driveSupplyRelease.brush = s.brush := by
    funext c
    cases c <;> simp [State.brush]
  obtain ⟨n0, u0, m0⟩ := s.driveSupplyRelease.brushSupplyRelease_others .c0
  obtain ⟨n1, u1, m1⟩ := (s.driveSupplyRelease.brushSupplyRelease .c0).brushSupplyRelease_others .c1
  obtain ⟨ns, us⟩ := ((s.driveSupplyRelease.brushSupplyRelease .c0).brushSupplyRelease .c1).spraySupplyRelease_others
  refine ⟨fun h => ?_, fun h => ?_, fun c h => ?_, us.trans (u1.trans (u0.trans (by simp))), ?_⟩
  · have hd : s.releaseNotices.drive = s.driveSupplyRelease.drive := by simp [State.releaseNotices]
    rw [hd, State.driveSupplyRelease_of_held h]
  · exact State.spraySupplyRelease_of_held (by simpa using h)
  · have hfinal := congrFun ns c
    show (State.brush _ c).state = _
    rw [State.releaseNotices, hfinal]
    cases c
    · rw [n1 .c0 (by decide), State.brushSupplyRelease_state (by rw [hb0]; exact h)]
      simp
    · rw [State.brushSupplyRelease_state (by rw [n0 .c1 (by decide), hb0]; exact h)]
      simp
  · rw [State.releaseNotices, State.spraySupplyRelease_ctl, m1, m0]
    simp

/-! ### The rows -/

theorem State.settle_ownCap_of_supply {s : State} (h : (s.ctl.record .supply).isSome = true) : s.settle.ctl.ownCap = 0 := by
  rw [State.settle_ctl_eq]
  exact if_pos h

theorem DriveState.moving_iff (x : DriveState) : x.moving = true ↔ x = .standstill ∨ x = .driving ∨ x = .turning := by
  cases x <;> simp [DriveState.moving]

theorem DriveState.not_moving_iff (x : DriveState) :
    x.moving = false ↔ x = .disabled ∨ x = .yielded ∨ x = .held ∨ x = .latched := by
  cases x <;> simp [DriveState.moving]

/-- The SUPPLY conversion at which the condition becomes LOW (R161, R162). -/
theorem State.singleOrLate_of_start {s : State} {code : Byte} (hm : s.ctl.mode ≠ .standby) (hp : s.conv.place = some .supply)
    (hl : s.loader.state = .done) (hn : s.out.supply = .normal)
    (hmon : monitor s.cfg.general.voltage .normal s.out.startTimer s.out.releaseTimer (code.toNat * 16) s.now =
      (.low, none, none)) :
    (s.out.supply == .normal && s.supplyAfter code == .low) = true ∧
      ∃ u : State, s.singleOrLate code = u.startNotices.makeSupplyRecord ∧ u.drive = s.drive ∧ u.brush = s.brush ∧
        u.spray = s.spray ∧ u.out.supply = .low := by
  constructor
  · rw [State.supplyAfter_of_supply hm hp hl, hn, hmon]
    rfl
  · rw [State.singleOrLate_of_mode hm, State.single_of_supply hp hl]
    exact ⟨_, State.superviseSupply_of_start
      (s := s.setConv (s.conv.write .supply (singleEntry .supply code)).advance) hn hmon, rfl, rfl, rfl, rfl⟩

/-- The SUPPLY conversion at which the condition becomes NORMAL (R161, R162). -/
theorem State.singleOrLate_of_release {s : State} {code : Byte} (hm : s.ctl.mode ≠ .standby)
    (hp : s.conv.place = some .supply) (hl : s.loader.state = .done) (hn : s.out.supply = .low)
    (hmon : monitor s.cfg.general.voltage .low s.out.startTimer s.out.releaseTimer (code.toNat * 16) s.now =
      (.normal, none, none)) :
    (s.out.supply == .low && s.supplyAfter code == .normal) = true ∧
      ∃ u : State, s.singleOrLate code = u.releaseNotices.setCtl (u.releaseNotices.ctl.dropRecord .supply) ∧
        u.drive = s.drive ∧ u.brush = s.brush ∧ u.spray = s.spray ∧ u.pins = s.pins ∧ u.ctl = s.ctl ∧
        u.out.supply = .normal := by
  constructor
  · rw [State.supplyAfter_of_supply hm hp hl, hn, hmon]
    rfl
  · rw [State.singleOrLate_of_mode hm, State.single_of_supply hp hl]
    exact ⟨_, State.superviseSupply_of_release
      (s := s.setConv (s.conv.write .supply (singleEntry .supply code)).advance) hn hmon, rfl, rfl, rfl, rfl, rfl, rfl⟩

/-- Settles O60: the SUPPLY conversion that starts the condition, and the one that ends it. -/
theorem supplyConditionStartsAndEnds : Obligations.SupplyConditionStartsAndEnds := by
  refine ⟨fun m code b s ht hl hm hp hn hv hb hle => ?_, fun m code b s ht hl hm hp hn hv hb hle => ?_⟩
  · obtain ⟨hd, u, hu, udrive, ubrush, uspray, usupply⟩ := State.singleOrLate_of_start (s := s.arrive m) (code := code) hm hp hl hn
      (by rw [show (s.arrive m).out.startTimer = some b from hb]; exact monitor_start hv hle)
    refine ⟨_, exec_of_due (due := fun a => a.out.supply == .normal && a.supplyAfter code == .low) ht hd rfl, ?_⟩
    rw [hu]
    obtain ⟨d1, d2, d3, d4, d5⟩ := u.startNotices_drive
    obtain ⟨x1, x2⟩ := u.startNotices_spray
    have hrec : u.startNotices.makeSupplyRecord.ctl.record .supply =
        some { source := .supply, code := .lowSupply, state := .active } := by
      rw [State.makeSupplyRecord, State.setCtl_ctl, Controller.record_putRecord, if_pos rfl]
    have hlow : u.startNotices.makeSupplyRecord.out.supply = .low := d5.trans usupply
    have hdrive : u.startNotices.makeSupplyRecord.drive = u.driveSupplyStart.drive := d1
    have hbrush : u.startNotices.makeSupplyRecord.brush = u.startNotices.brush := by funext c; cases c <;> rfl
    rw [State.finish_out, State.finish_ctl, State.finish_drive, State.finish_spray, State.finish_brush_eq, hdrive, hbrush]
    refine ⟨hlow, ?_, State.settle_ownCap_of_supply (by rw [hrec]; rfl), hrec, fun h => ?_, fun h => ?_, fun c => ⟨fun h => ?_,
      fun h => ?_⟩, fun h => ?_, fun h => ?_⟩
    · rw [State.settle_out_forcing, State.forcingOn, State.supplyLow, hlow]
      exact Bool.or_true _
    · have hmov : u.drive.state.moving = true := by rw [udrive]; exact (DriveState.moving_iff _).mpr h
      have he := State.driveSupplyStart_of_moving hmov
      rw [he] at d2 d3 d4
      rw [he, State.settle_out_driveF_shadow, State.settle_out_driveR_shadow, State.settle_out_parkRelease]
      exact ⟨rfl, rfl, rfl, rfl, rfl, congrArg CoilOut.shadow d2, congrArg CoilOut.shadow d3, d4⟩
    · rw [State.driveSupplyStart_of_not_moving (by rw [udrive]; exact (DriveState.not_moving_iff _).mpr h), udrive]
      rfl
    · obtain ⟨h1, h2⟩ := (u.startNotices_brush c).1 (by rw [ubrush]; exact h)
      rw [h1]
      exact ⟨rfl, rfl, rfl, State.armOff_settle h2⟩
    · exact ((u.startNotices_brush c).2 (by rw [ubrush]; exact h)).trans (congrFun ubrush c)
    · obtain ⟨h1, h2⟩ := x1 (by rw [uspray]; exact (SprayState.live_iff _).mpr h)
      have hx : u.startNotices.makeSupplyRecord.spray = u.spray.toHeld := h1
      have hdust : u.startNotices.makeSupplyRecord.dustStands = false := by
        refine State.dustStands_of_state ?_ ?_ <;> rw [hx] <;> nofun
      rw [hx, State.settle_out_pump_shadow, State.settle_ctl_contrib, State.contributions, hdust]
      exact ⟨rfl, rfl, rfl, h2, rfl⟩
    · exact (x2 (by rw [uspray]; exact (SprayState.not_live_iff _).mpr h)).trans uspray
  · obtain ⟨hd, u, hu, udrive, ubrush, uspray, upins, uctl, usupply⟩ :=
      State.singleOrLate_of_release (s := s.arrive m) (code := code) hm hp hl hn
        (by rw [show (s.arrive m).out.releaseTimer = some b from hb]; exact monitor_release hv hle)
    refine ⟨_, exec_of_due (due := fun a => a.out.supply == .low && a.supplyAfter code == .normal) ht hd rfl, ?_⟩
    rw [hu]
    obtain ⟨n1, n2, n3, n4, n5⟩ := u.releaseNotices_spec
    generalize u.releaseNotices = r at *
    have hbrush (x : Controller) : (r.setCtl x).brush = r.brush := by funext c; cases c <;> rfl
    rw [State.finish_out, State.finish_ctl, State.finish_drive, State.finish_spray, State.finish_brush_eq, hbrush]
    refine ⟨n4.trans usupply, ?_, fun hw => ?_, fun h => n1 (by rw [udrive]; exact h), fun h => n2 (by rw [uspray]; exact h),
      fun c h => ?_⟩
    · rw [State.settle_ctl_record, State.setCtl_ctl, Controller.record_dropRecord, if_pos rfl]
    · have hmode : r.ctl.mode = s.ctl.mode := n5.trans (congrArg Controller.mode uctl)
      show (r.ctl.mode == .standby || r.ctl.mode == .warmup ||
        r.out.supply == .low) = false
      rw [hmode, n4, usupply]
      simp [hm, hw]
    · rw [n3 c (by rw [ubrush]; exact h), upins]
      rfl

end Sys2Proof.Machine

/-! The stages of the drive step, each by what it sets (01, sections 1.2 to 1.8). -/

namespace Sys2Proof.Machine

/-! ### The pedal stage (R3 to R5) -/

/-- The drive after the pedal stage: the pedal's own figures, the position by the flag that the stage leaves. -/
theorem State.pedalStage_drive (s : State) :
    ∃ f d r, s.pedalStage.drive =
      { s.drive with
        pedal := if f = true then 0 else s.trackPosition, pedalFault := f, disagreeTimer := d, recoverTimer := r } := by
  unfold State.pedalStage
  dsimp only
  split
  · exact ⟨true, none, none, by rw [(State.postPedal_keeps _).2.2.2.1]; rfl⟩
  · split
    · exact ⟨false, none, none, by rw [(State.withdrawPedal_keeps _).2.2.2.1]; rfl⟩
    · exact ⟨s.drive.pedalFault, s.disagreeTiming, s.recoverTiming, rfl⟩

theorem State.pedalStage_of_onset {s : State} (h : ranFor s.disagreeTiming s.now (ms 100) = true) :
    s.pedalStage =
      (s.setDrive { s.drive with pedalFault := true, pedal := 0, disagreeTimer := none, recoverTimer := none }).postPedal := by
  unfold State.pedalStage
  dsimp only
  rw [if_pos h]

theorem State.pedalStage_of_recovery {s : State} (hd : ranFor s.disagreeTiming s.now (ms 100) = false)
    (h : ranFor s.recoverTiming s.now (ms 500) = true) :
    s.pedalStage =
      (s.setDrive
        { s.drive with
          pedalFault := false, pedal := s.trackPosition, disagreeTimer := none, recoverTimer := none }).withdrawPedal := by
  unfold State.pedalStage
  dsimp only
  rw [hd, if_neg Bool.false_ne_true, if_pos h]

theorem State.postPedal_of_free {s : State} (hc : s.drive.coilLatch = false) (hb : s.drive.blind = false)
    (hy : s.drive.state ≠ .yielded) (hr : s.ctl.record .drive = none) :
    s.postPedal.ctl.faults = s.ctl.faults ++ [{ source := .drive, code := .pedal, state := .active }] := by
  have hnone : ¬(s.ctl.faults.any fun r => r.source == .drive) = true := by
    simpa [Controller.record, List.find?_eq_none] using hr
  unfold State.postPedal
  rw [if_neg (by simp [hc, hb, hy, hr]), State.setCtl_ctl, Controller.putRecord]
  rw [if_neg hnone]

theorem State.withdrawPedal_of_active {s : State}
    (hr : s.ctl.record .drive = some { source := .drive, code := .pedal, state := .active }) :
    s.withdrawPedal.ctl.record .drive = none := by
  unfold State.withdrawPedal
  rw [if_pos hr, State.setCtl_ctl, Controller.record_dropRecord, if_pos rfl]

/-! ### The blind stage (R16) -/

theorem State.blindStage_of_met {s : State} (h : ranFor s.blindTiming s.now (ms 2000) = true) :
    s.blindStage =
      (s.setDrive { s.drive with blind := true, blindTimer := none, integ := 0, prevRaw := 0 }).postDrive .wheelSensor := by
  unfold State.blindStage
  rw [if_pos h]

theorem State.blindStage_of_not_met {s : State} (h : ranFor s.blindTiming s.now (ms 2000) = false) :
    s.blindStage = s.setDrive { s.drive with blindTimer := s.blindTiming } := by
  unfold State.blindStage
  rw [if_neg (by rw [h]; nofun)]

theorem ranFor_runWhile_none (c : Bool) (now : Micros) {d : Micros} (hd : 0 < d) : ranFor (runWhile c none now) now d = false := by
  cases c
  · rfl
  · exact decide_eq_false (Nat.not_le.mpr (Nat.lt_add_of_pos_right hd))

/-- With no blind timing running, the stage meets nothing. -/
theorem State.blindStage_of_untimed {s : State} (h : s.drive.blindTimer = none) :
    s.blindStage = s.setDrive { s.drive with blindTimer := s.blindTiming } := by
  refine State.blindStage_of_not_met ?_
  unfold State.blindTiming
  rw [h]
  exact ranFor_runWhile_none _ _ (by decide)

/-- The state that the direction and state rules are tested on. -/
def State.driveReady (s : State) : State := s.pedalStage.blindStage

/-- What the pedal and blind stages leave for the rules of a step. -/
structure State.DriveReady (s b : State) : Prop where
  state : b.drive.state = s.drive.state
  engaged : b.drive.engaged = s.drive.engaged
  ramp : b.drive.ramp = s.drive.ramp
  hold : b.drive.hold = s.drive.hold
  stopTimer : b.drive.stopTimer = s.drive.stopTimer
  turnTimer : b.drive.turnTimer = s.drive.turnTimer
  pedal : b.drive.pedal = if b.drive.pedalFault = true then 0 else s.trackPosition
  sighted : b.drive.blind = false → b.drive.integ = s.drive.integ ∧ b.drive.prevRaw = s.drive.prevRaw
  blind : s.drive.blind = true → b.drive.blind = true
  mode : b.ctl.mode = s.ctl.mode
  requested : b.ctl.requested = s.ctl.requested
  cap : b.effectiveCap = s.effectiveCap
  cfg : b.cfg = s.cfg
  pace : b.capture.pace = s.capture.pace
  now : b.now = s.now

theorem State.blindStage_drive (s : State) :
    ∃ f t i p, s.blindStage.drive = { s.drive with blind := f, blindTimer := t, integ := i, prevRaw := p } ∧
      (f = false → i = s.drive.integ ∧ p = s.drive.prevRaw) ∧ (s.drive.blind = true → f = true) := by
  cases h : ranFor s.blindTiming s.now (ms 2000)
  · rw [State.blindStage_of_not_met h]
    exact ⟨s.drive.blind, s.blindTiming, s.drive.integ, s.drive.prevRaw, rfl, fun _ => ⟨rfl, rfl⟩, id⟩
  · rw [State.blindStage_of_met h]
    exact ⟨true, none, 0, 0, rfl, fun hf => Bool.noConfusion hf, fun _ => rfl⟩

theorem State.driveReady_ready (s : State) : s.DriveReady s.driveReady := by
  have hctl := s.pedalStage_ctl.trans (State.blindStage_ctl _)
  obtain ⟨⟨l, hl⟩, -⟩ := hctl
  obtain ⟨pn, -, pl, -, -, -, -, pown, ppeers, -, pcap, -⟩ := s.pedalStage_keeps
  obtain ⟨bn, -, bl, -, -, -, -, bown, bpeers, -, bcap, -⟩ := s.pedalStage.blindStage_keeps
  obtain ⟨f, d, r, hd⟩ := s.pedalStage_drive
  obtain ⟨g, t, i, p, hb, hs, hm⟩ := s.pedalStage.blindStage_drive
  rw [hd] at hb hs hm
  have hcfg : s.driveReady.cfg = s.cfg := by rw [State.driveReady, State.cfg, State.cfg, bl, pl]
  have ho : s.driveReady.others = s.others := by
    rw [State.others, State.others, State.driveReady, bpeers, ppeers, bown, pown]
  have hb' : s.driveReady.drive = _ := hb
  have hl' : s.driveReady.ctl = _ := hl
  refine ⟨by rw [hb'], by rw [hb'], by rw [hb'], by rw [hb'], by rw [hb'], by rw [hb'], by rw [hb'], fun h => ?_, fun h => ?_,
    by rw [hl'], by rw [hl'], ?_, hcfg, ?_, ?_⟩
  · rw [hb'] at h ⊢
    exact hs h
  · rw [hb']
    exact hm h
  · rw [State.effectiveCap, State.effectiveCap, ho, hcfg, hl']
  · rw [State.driveReady, bcap, pcap]
  · rw [State.driveReady, bn, pn]

/-! ### The direction and state rules (R11 to R14) -/

theorem ranFor_runWhile_iff {c : Bool} {x : Timer} {now d : Micros} (hd : 0 < d) :
    ranFor (runWhile c x now) now d = true ↔ c = true ∧ ∃ b, x = some b ∧ b + d ≤ now := by
  cases c
  · exact ⟨fun h => Bool.noConfusion h, fun h => Bool.noConfusion h.1⟩
  · cases x with
    | none =>
      rw [ranFor_runWhile_none true now hd]
      exact ⟨fun h => Bool.noConfusion h, fun ⟨_, _, h, _⟩ => nomatch h⟩
    | some b =>
      refine (decide_eq_true_iff (p := b + d ≤ now)).trans ⟨fun h => ⟨rfl, b, rfl, h⟩, ?_⟩
      rintro ⟨-, b', hb, h⟩
      cases hb
      exact h

/-- A direction is engaged when another than the engaged one is requested at rest, in TURNING after 200 ms of it. -/
theorem State.driveMove_eq_engage_iff {b : State} (h : b.drive.state.moving = true) :
    b.driveMove = .engage ↔
      b.ctl.requested ≠ b.drive.engaged ∧ b.restSpeed ≤ 30 ∧
        (b.drive.state = .turning → ∃ x, b.drive.turnTimer = some x ∧ x + 200000 ≤ b.now) := by
  have hturn : ranFor b.turnTiming b.now (ms 200) = true ↔
      b.restSpeed ≤ 30 ∧ ∃ x, b.drive.turnTimer = some x ∧ x + 200000 ≤ b.now := by
    rw [State.turnTiming, ranFor_runWhile_iff (by decide), decide_eq_true_iff]
    rfl
  unfold State.driveMove
  cases hs : b.drive.state <;> rw [hs] at h <;> first | exact Bool.noConfusion h | skip
  case turning =>
    by_cases ha : b.ctl.requested = b.drive.engaged
    · simp [ha]
    · by_cases hr : ranFor b.turnTiming b.now (ms 200) = true
      · simpa [ha, hr] using hturn.1 hr
      · have hnot := mt hturn.2 hr
        rw [if_neg ha, if_neg hr]
        refine ⟨nofun, fun ⟨_, h30, hx⟩ => absurd ⟨h30, hx rfl⟩ hnot⟩
  all_goals
    by_cases ha : b.ctl.requested = b.drive.engaged
    · simp [ha]
      split <;> simp
    · by_cases hr : b.restSpeed ≤ 30 <;> simp [ha, hr]

theorem State.moveStage_of_engage {s : State} (h : s.driveMove = .engage) : s.moveStage = s.engage := by
  unfold State.moveStage
  rw [h]

/-- But for an engagement, the rules set the state and its two timers alone. -/
theorem State.moveStage_of_other {s : State} (h : s.driveMove ≠ .engage) :
    ∃ st a b, s.moveStage = s.setDrive { s.drive with state := st, stopTimer := a, turnTimer := b } := by
  unfold State.moveStage
  cases hm : s.driveMove
  case engage => exact absurd hm h
  case turn => exact ⟨_, _, _, rfl⟩
  case withdraw => exact ⟨_, _, _, rfl⟩
  case moveOff => exact ⟨.driving, none, s.drive.turnTimer, rfl⟩
  case stop => exact ⟨.standstill, none, s.drive.turnTimer, rfl⟩
  case stay =>
    dsimp only
    split
    · exact ⟨s.drive.state, s.stopTiming, s.drive.turnTimer, rfl⟩
    · exact ⟨s.drive.state, s.drive.stopTimer, s.turnTiming, rfl⟩
    all_goals exact ⟨s.drive.state, s.drive.stopTimer, s.drive.turnTimer, rfl⟩

/-- Another direction requested and not yet engaged: TURNING, its timing running at rest. -/
theorem State.moveStage_of_asked {b : State} (h : b.drive.state.moving = true) (ha : b.ctl.requested ≠ b.drive.engaged)
    (he : b.driveMove ≠ .engage) :
    b.moveStage.drive.state = .turning ∧
      b.moveStage.drive.turnTimer =
        if b.drive.state = .turning ∧ b.restSpeed ≤ 30 then some (b.drive.turnTimer.getD b.now) else none := by
  have hengage := mt (State.driveMove_eq_engage_iff h).2 he
  cases hs : b.drive.state <;> rw [hs] at h hengage <;> first | exact Bool.noConfusion h | skip
  case turning =>
    have hm : b.driveMove = .stay := by
      unfold State.driveMove at he ⊢
      rw [hs] at he ⊢
      simp only [ha] at he ⊢
      simpa using he
    have hmove : b.moveStage = b.setDrive { b.drive with turnTimer := b.turnTiming } := by
      unfold State.moveStage
      rw [hm]
      simp only [hs]
    rw [hmove]
    refine ⟨hs, ?_⟩
    show b.turnTiming = _
    by_cases hr : b.restSpeed ≤ 30 <;> simp [State.turnTiming, runWhile, hr]
  all_goals
    have hr : ¬b.restSpeed ≤ 30 := fun hr => hengage ⟨ha, hr, nofun⟩
    have hm : b.driveMove = .turn := by
      unfold State.driveMove
      simp [hs, ha, hr]
    unfold State.moveStage
    rw [hm]
    exact ⟨rfl, rfl⟩

theorem State.moveStage_of_standstill {b : State} (h : b.drive.state = .standstill) (ha : b.ctl.requested = b.drive.engaged) :
    b.moveStage.drive.state =
      if 0 < b.demandFor b.drive.engaged ∧ b.ctl.mode.permitsTravel = true then .driving else .standstill := by
  have hm : b.driveMove =
      if 0 < b.demandFor b.drive.engaged ∧ b.ctl.mode.permitsTravel = true then .moveOff else .stay := by
    unfold State.driveMove
    rw [h]
    exact if_neg (not_not_intro ha)
  unfold State.moveStage
  by_cases hgo : 0 < b.demandFor b.drive.engaged ∧ b.ctl.mode.permitsTravel = true
  · rw [hm, if_pos hgo, if_pos hgo]
    rfl
  · rw [hm, if_neg hgo, if_neg hgo]
    simp only [h]

theorem State.moveStage_of_turning {b : State} (h : b.drive.state = .turning) (ha : b.ctl.requested = b.drive.engaged) :
    b.moveStage.drive.state = .driving := by
  have hm : b.driveMove = .withdraw := by
    unfold State.driveMove
    rw [h]
    exact if_pos ha
  unfold State.moveStage
  rw [hm]
  rfl

/-- The condition that the stop timing runs on. -/
def State.stopped (b : State) : Prop := b.drive.ramp = 0 ∧ b.restSpeed ≤ 30 ∧ b.demandFor b.drive.engaged = 0

theorem State.stopTiming_of_stopped {b : State} (h : b.stopped) : b.stopTiming = some (b.drive.stopTimer.getD b.now) := by
  obtain ⟨hr, hs, hd⟩ := h
  simp [State.stopTiming, runWhile, hr, hs, hd]

theorem State.stopTiming_of_not_stopped {b : State} (h : ¬b.stopped) : b.stopTiming = none := by
  unfold State.stopTiming runWhile
  refine if_neg fun hc => h ?_
  simp only [Bool.and_eq_true, beq_iff_eq, decide_eq_true_eq] at hc
  obtain ⟨⟨hr, hs⟩, hd⟩ := hc
  exact ⟨hr, hs, hd⟩

/-- DRIVING with its engaged direction requested: the stop timing runs, ends, or is stopped. -/
theorem State.moveStage_of_driving {b : State} (h : b.drive.state = .driving) (ha : b.ctl.requested = b.drive.engaged) :
    b.moveStage.drive.state = (if ranFor b.stopTiming b.now (ms 2000) = true then .standstill else .driving) ∧
      b.moveStage.drive.stopTimer = (if ranFor b.stopTiming b.now (ms 2000) = true then none else b.stopTiming) := by
  have hm : b.driveMove = if ranFor b.stopTiming b.now (ms 2000) = true then .stop else .stay := by
    unfold State.driveMove
    rw [h]
    exact if_neg (not_not_intro ha)
  unfold State.moveStage
  rw [hm]
  cases ranFor b.stopTiming b.now (ms 2000)
  · simp only [Bool.false_eq_true, if_false, h]
    exact ⟨rfl, rfl⟩
  · exact ⟨rfl, rfl⟩

/-! ### The step of a drive that may move -/

/-- What the stages after the pedal check and the blind detection make of a state. -/
def State.driven (b : State) : State := (b.moveStage.rampStage (b.driveMove == .engage)).coilStage

theorem State.driveStep_of_moving {s : State} (h : s.drive.state.moving = true) :
    s.driveStep = s.driveReady.driven.setPark s.driveReady.driven.parkReleased := by
  unfold State.driveStep
  dsimp only
  rw [s.pedalStage_state, if_pos h]
  rfl

theorem State.driveStep_of_not_moving {s : State} (h : s.drive.state.moving = false) :
    s.driveStep = ((s.pedalStage.setDrive { s.pedalStage.drive with ramp := 0 }).writeDriveCoils 0 0).setPark false := by
  unfold State.driveStep
  dsimp only
  rw [s.pedalStage_state, h]
  rfl

theorem dutyStage_blind (i : DriveCfg) (r speed : Nat) (integ prevRaw : Int) :
    dutyStage i true r speed integ prevRaw = (min (feedForward i r) i.creepDuty, 0, 0) := rfl

theorem dutyStage_rest (i : DriveCfg) (blind : Bool) {r speed : Nat} (integ prevRaw : Int) (hr : r = 0)
    (hs : blind = false → speed ≤ 30) : dutyStage i blind r speed integ prevRaw = (0, 0, 0) := by
  cases blind
  · unfold dutyStage
    rw [if_neg Bool.false_ne_true, if_pos ⟨hr, hs rfl⟩]
  · rw [dutyStage_blind, hr]
    simp [feedForward]

theorem dutyStage_le (i : DriveCfg) (blind : Bool) (r speed : Nat) (integ prevRaw : Int) :
    (dutyStage i blind r speed integ prevRaw).1 ≤ 1000 := by
  cases blind
  · unfold dutyStage
    rw [if_neg Bool.false_ne_true]
    split
    · exact Nat.zero_le _
    · dsimp only [clampInt]
      omega
  · rw [dutyStage_blind]
    refine le_trans (min_le_left _ _) ?_
    unfold feedForward
    split
    · exact Nat.zero_le _
    · exact (clampNat_mem 0 1000 _ (by decide)).2

/-- The duty stage of a step that ends in this drive, by the integrator and raw output it found. -/
def State.duty (b : State) (r : Nat) (integ prevRaw : Int) : Nat × Int × Int :=
  dutyStage b.cfg.drive b.drive.blind r b.capture.pace.natAbs integ prevRaw

/-- The step that engages a direction: ramp, integrator and duties at 0. -/
theorem State.driven_of_engage {b : State} (hm : b.drive.state.moving = true) (h : b.driveMove = .engage) :
    b.driven.drive =
        { b.drive with
          engaged := b.ctl.requested, ramp := 0, integ := 0, prevRaw := 0,
          hold := holdAfter b.drive.engaged b.ctl.requested b.drive.hold,
          state := if 0 < b.demandFor b.ctl.requested ∧ b.ctl.mode.permitsTravel = true then .driving else .standstill,
          stopTimer := none, turnTimer := none } ∧
      b.driven.out.driveF.shadow = 0 ∧ b.driven.out.driveR.shadow = 0 := by
  have hrest : b.drive.blind = false → b.capture.pace.natAbs ≤ 30 := by
    intro hb
    obtain ⟨-, hr, -⟩ := (State.driveMove_eq_engage_iff hm).1 h
    rwa [State.restSpeed, hb] at hr
  have he : b.driven = b.engage.coilStage := by
    rw [State.driven, h, State.moveStage_of_engage h]
    rfl
  have hz : dutyStage b.engage.cfg.drive b.engage.drive.blind b.engage.drive.ramp b.engage.capture.pace.natAbs
      b.engage.drive.integ b.engage.drive.prevRaw = (0, 0, 0) := dutyStage_rest _ _ _ _ rfl hrest
  rw [he]
  unfold State.coilStage
  rw [hz]
  refine ⟨rfl, ?_, ?_⟩
  · show (if _ then 0 else 0) = 0
    exact ite_self 0
  · show (if _ then 0 else 0) = 0
    exact ite_self 0

/-- The ramp target of a step that engages no direction. -/
def State.nextRamp (b : State) : Nat :=
  b.rampToward (if b.moveStage.drive.state = .turning then 0 else b.demandFor b.drive.engaged)

/-- The step that engages none: state and timers by the rules, the ramp moved, the duty by its stage. -/
theorem State.driven_of_other {b : State} (h : b.driveMove ≠ .engage) :
    b.driven.drive =
        { b.drive with
          state := b.moveStage.drive.state, stopTimer := b.moveStage.drive.stopTimer,
          turnTimer := b.moveStage.drive.turnTimer, ramp := b.nextRamp,
          integ := (b.duty b.nextRamp b.drive.integ b.drive.prevRaw).2.1,
          prevRaw := (b.duty b.nextRamp b.drive.integ b.drive.prevRaw).2.2 } ∧
      b.driven.out.driveF.shadow =
        (if b.drive.engaged = .fwd ∧ b.drive.hold ≠ some .fwd then (b.duty b.nextRamp b.drive.integ b.drive.prevRaw).1 else 0) ∧
      b.driven.out.driveR.shadow =
        (if b.drive.engaged = .rev ∧ b.drive.hold ≠ some .rev then (b.duty b.nextRamp b.drive.integ b.drive.prevRaw).1 else 0) := by
  obtain ⟨st, x, y, hmove⟩ := State.moveStage_of_other h
  have he : (b.driveMove == .engage) = false := beq_eq_false_iff_ne.2 h
  rw [State.nextRamp, State.driven, he, hmove]
  exact ⟨rfl, rfl, rfl⟩

/-- What no stage of the step writes. -/
theorem State.driven_pedal (b : State) :
    b.driven.drive.pedal = b.drive.pedal ∧ b.driven.drive.pedalFault = b.drive.pedalFault ∧
      b.driven.drive.blind = b.drive.blind ∧ b.driven.ctl = b.ctl ∧
      b.driven.drive.disagreeTimer = b.drive.disagreeTimer ∧ b.driven.drive.recoverTimer = b.drive.recoverTimer := by
  by_cases h : b.driveMove = .engage
  · rw [State.driven, State.moveStage_of_engage h, h]
    exact ⟨rfl, rfl, rfl, rfl, rfl, rfl⟩
  · obtain ⟨st, x, y, hmove⟩ := State.moveStage_of_other h
    have he : (b.driveMove == .engage) = false := beq_eq_false_iff_ne.2 h
    rw [State.driven, he, hmove]
    exact ⟨rfl, rfl, rfl, rfl, rfl, rfl⟩

theorem State.parkReleased_iff {s : State} (h : s.drive.state.moving = true) :
    s.parkReleased = true ↔
      s.drive.state = .driving ∨ s.drive.state = .turning ∨
        (s.drive.engaged ≠ .neutral ∧ s.ctl.mode.permitsTravel = true ∧ 0 < s.drive.pedal) := by
  unfold State.parkReleased
  cases hs : s.drive.state <;> rw [hs] at h <;> first | exact Bool.noConfusion h | skip
  case standstill => simp [and_assoc]
  all_goals simp

end Sys2Proof.Machine

/-! The drive rows (01): O18 to O22. -/

namespace Sys2Proof.Machine

/-! ### The pedal position -/

theorem trackA_eq (i : DriveCfg) (a : Nat) :
    trackA i a = if i.aHi ≤ i.aLo ∨ a ≤ i.aLo then 0 else if i.aHi ≤ a then 1000 else (a - i.aLo) * 1000 / (i.aHi - i.aLo) := by
  unfold trackA
  by_cases h : i.aHi ≤ i.aLo
  · rw [if_pos h, if_pos (Or.inl h)]
  · simp only [h, if_false, false_or]

theorem trackB_eq (i : DriveCfg) (b : Nat) :
    trackB i b = if i.bHi ≤ i.bLo ∨ i.bHi ≤ b then 0 else if b ≤ i.bLo then 1000 else (i.bHi - b) * 1000 / (i.bHi - i.bLo) := by
  unfold trackB
  by_cases h : i.bHi ≤ i.bLo
  · rw [if_pos h, if_pos (Or.inl h)]
  · simp only [h, if_false, false_or]

theorem State.driveStepRuns_of {s : State} (hd : s.drive.state ≠ .disabled) (hm : s.ctl.mode ≠ .standby) :
    s.driveStepRuns = true := by
  simp [State.driveStepRuns, hd, hm]

theorem State.driven_setPark_drive (b : State) : (b.driven.setPark b.driven.parkReleased).drive = b.driven.drive := rfl

/-- After the step the pedal position is what its flag leaves of the tracks'. -/
theorem State.driveStep_pedal (s : State) :
    s.driveStep.drive.pedal = if s.driveStep.drive.pedalFault = true then 0 else s.trackPosition := by
  cases h : s.drive.state.moving
  · obtain ⟨f, d, r, hp⟩ := s.pedalStage_drive
    rw [State.driveStep_of_not_moving h]
    show s.pedalStage.drive.pedal = if s.pedalStage.drive.pedalFault = true then 0 else s.trackPosition
    rw [hp]
  · obtain ⟨hp, hf, -⟩ := s.driveReady.driven_pedal
    rw [State.driveStep_of_moving h, State.driven_setPark_drive, hp, hf]
    exact s.driveReady_ready.pedal

/-- Settles O18: the tracks are read at the step itself. -/
theorem driveStepFormsThePedalPosition : Obligations.DriveStepFormsThePedalPosition := by
  intro m s ht hd hm
  refine ⟨_, exec_of_due ht (State.driveStepRuns_of (s := s.arrive m) hd hm) rfl, ?_⟩
  refine ⟨s.posA, s.posB, trackA_eq _ _, trackB_eq _ _, ?_⟩
  rw [State.finish_drive]
  exact (s.arrive m).driveStep_pedal

/-! ### The pedal fault -/

/-- The step leaves the pedal's figures, and with no blind timing running the mode controller, as its pedal stage left them. -/
theorem State.driveStep_of_pedalStage (s : State) :
    s.driveStep.drive.pedal = s.pedalStage.drive.pedal ∧ s.driveStep.drive.pedalFault = s.pedalStage.drive.pedalFault ∧
      s.driveStep.drive.disagreeTimer = s.pedalStage.drive.disagreeTimer ∧
      s.driveStep.drive.recoverTimer = s.pedalStage.drive.recoverTimer ∧
      (s.drive.blindTimer = none → s.driveStep.ctl = s.pedalStage.ctl) := by
  cases h : s.drive.state.moving
  · rw [State.driveStep_of_not_moving h]
    exact ⟨rfl, rfl, rfl, rfl, fun _ => rfl⟩
  · obtain ⟨hp, hf, -, hc, hd, hr⟩ := s.driveReady.driven_pedal
    obtain ⟨f, t, i, p, hb, -⟩ := s.pedalStage.blindStage_drive
    rw [State.driveStep_of_moving h, State.driven_setPark_drive, hp, hf, hd, hr, State.setPark_ctl, hc, State.driveReady, hb]
    refine ⟨rfl, rfl, rfl, rfl, fun hn => ?_⟩
    obtain ⟨f', d, r, hps⟩ := s.pedalStage_drive
    have hn' : s.pedalStage.drive.blindTimer = none := by
      rw [hps]
      exact hn
    rw [State.blindStage_of_untimed hn', State.setDrive_ctl]

/-- Settles O20: each row is the drive step whose pedal stage meets its timing. -/
theorem pedalFaultOnsetAndRecovery : Obligations.PedalFaultOnsetAndRecovery := by
  constructor
  · intro m s b ht hd hm hf hdis hb hle
    have hrun : ranFor (s.arrive m).disagreeTiming (s.arrive m).now (ms 100) = true := by
      refine (ranFor_runWhile_iff (by decide)).2 ⟨?_, b, hb, hle⟩
      simp only [State.arrive_drive, hf, Bool.not_false, Bool.true_and]
      exact hdis
    have hmet : (s.arrive m).pedalOnsetMet = true := by
      rw [State.pedalOnsetMet, State.driveStepRuns_of (s := s.arrive m) hd hm, hrun, Bool.true_and]
    refine ⟨_, exec_of_due ht hmet rfl, ?_⟩
    obtain ⟨hp, hflag, hdt, -, hctl⟩ := (s.arrive m).driveStep_of_pedalStage
    have hstage := State.pedalStage_of_onset hrun
    have hdrive := congrArg State.drive hstage
    rw [(State.postPedal_keeps _).2.2.2.1, State.setDrive_drive] at hdrive
    rw [State.finish_drive, hp, hflag, hdt, hdrive]
    refine ⟨rfl, rfl, rfl, fun hbt hc hbl hy hr => ?_⟩
    rw [State.finish_ctl, State.settle_ctl_faults, hctl hbt, hstage]
    exact State.postPedal_of_free hc hbl hy hr
  · intro m s b ht hd hm hf hdis htp hb hle
    have hno : ranFor (s.arrive m).disagreeTiming (s.arrive m).now (ms 100) = false := by
      rw [State.disagreeTiming, State.arrive_drive, hf]
      rfl
    have hrun : ranFor (s.arrive m).recoverTiming (s.arrive m).now (ms 500) = true := by
      refine (ranFor_runWhile_iff (by decide)).2 ⟨?_, b, hb, hle⟩
      have hdis' : (s.arrive m).tracksDisagree = false := hdis
      have htp' : (s.arrive m).trackPosition = 0 := htp
      simp [hf, hdis', htp']
    have hmet : (s.arrive m).pedalRecoveryMet = true := by
      rw [State.pedalRecoveryMet, State.driveStepRuns_of (s := s.arrive m) hd hm, hrun, Bool.true_and]
    refine ⟨_, exec_of_due ht hmet rfl, ?_⟩
    obtain ⟨-, hflag, -, hrt, hctl⟩ := (s.arrive m).driveStep_of_pedalStage
    have hstage := State.pedalStage_of_recovery hno hrun
    have hdrive := congrArg State.drive hstage
    rw [(State.withdrawPedal_keeps _).2.2.2.1, State.setDrive_drive] at hdrive
    rw [State.finish_drive, hflag, hrt, hdrive]
    refine ⟨rfl, rfl, fun hbt hr => ?_⟩
    rw [State.finish_ctl, State.settle_ctl_record, hctl hbt, hstage]
    exact State.withdrawPedal_of_active hr

/-! ### The end of the stop and turn timings, and blind detection -/

theorem State.finish_coils (u : State) (b : LinkState) :
    (u.finish b).out.driveF.shadow = u.out.driveF.shadow ∧ (u.finish b).out.driveR.shadow = u.out.driveR.shadow ∧
      (u.finish b).out.parkRelease = u.out.parkRelease := by
  rw [State.finish_out]
  exact ⟨u.settle_out_driveF_shadow, u.settle_out_driveR_shadow, u.settle_out_parkRelease⟩

theorem State.rampToward_zero {s : State} (h : s.drive.ramp = 0) : s.rampToward 0 = 0 := by
  simp [State.rampToward, h]

theorem State.finish_driveStep_of_moving {s : State} (h : s.drive.state.moving = true) (l : LinkState) :
    (s.driveStep.finish l).drive = s.driveReady.driven.drive ∧
      (s.driveStep.finish l).out.driveF.shadow = s.driveReady.driven.out.driveF.shadow ∧
      (s.driveStep.finish l).out.driveR.shadow = s.driveReady.driven.out.driveR.shadow ∧
      (s.driveStep.finish l).out.parkRelease = s.driveReady.driven.parkReleased := by
  obtain ⟨hf, hr, hp⟩ := s.driveStep.finish_coils l
  rw [hf, hr, hp, State.finish_drive, State.driveStep_of_moving h]
  exact ⟨rfl, rfl, rfl, rfl⟩

/-- Settles O21: the two ends are the drive step whose rules come to a stop, or to an engagement. -/
theorem stopAndTurnTimingsEnd : Obligations.StopAndTurnTimingsEnd := by
  constructor
  · intro m s b a ht hm hst hreq hramp hrest hdem hb hle
    have hmov : (s.arrive m).drive.state.moving = true := by
      rw [State.arrive_drive, hst]
      rfl
    obtain ⟨hs, he, hr, hh, hstop, -, -, -, -, hmode, hrq, -, -, -, hnow⟩ := (s.arrive m).driveReady_ready
    obtain ⟨h1, h2, h3, -⟩ := State.finish_driveStep_of_moving hmov s.link.state
    have ha : (s.arrive m).driveReady = a := rfl
    rw [ha] at hs he hr hh hstop hmode hrq hnow h1 h2 h3
    have hstate : a.drive.state = .driving := hs.trans hst
    have hasked : a.ctl.requested = a.drive.engaged := hrq.trans (hreq.trans he.symm)
    have hramp0 : a.drive.ramp = 0 := hr.trans hramp
    have hdem0 : a.demandFor a.drive.engaged = 0 := by
      rw [he]
      exact hdem
    have hran : ranFor a.stopTiming a.now (ms 2000) = true := by
      rw [State.stopTiming_of_stopped ⟨hramp0, hrest, hdem0⟩, hstop, State.arrive_drive, hb, hnow]
      exact ranFor_of_le rfl hle
    have hmove : a.driveMove = .stop := by
      unfold State.driveMove
      rw [hstate]
      exact (if_neg (not_not_intro hasked)).trans (if_pos hran)
    have hmet : (s.arrive m).stopMet = true := by
      rw [State.stopMet, State.driveStepRuns_of (s := s.arrive m) (by rw [State.arrive_drive, hst]; nofun) hm, Bool.true_and]
      exact beq_iff_eq.2 hmove
    refine ⟨_, exec_of_due ht hmet rfl, ?_⟩
    obtain ⟨hms, hmt⟩ := State.moveStage_of_driving hstate hasked
    rw [if_pos hran] at hms hmt
    have hnext : a.nextRamp = 0 := by
      rw [State.nextRamp, hms, if_neg (by decide), hdem0, State.rampToward_zero hramp0]
    have hduty : a.duty a.nextRamp a.drive.integ a.drive.prevRaw = (0, 0, 0) := by
      refine dutyStage_rest _ _ _ _ hnext fun hbl => ?_
      rwa [State.restSpeed, hbl] at hrest
    obtain ⟨hd, hf, hrv⟩ := State.driven_of_other (b := a) (by rw [hmove]; decide)
    rw [h1, h2, h3, hd, hf, hrv, hduty]
    exact ⟨hms, hmt, he, hnext, ite_self 0, ite_self 0⟩
  · intro m s b a ht hm hst hreq hrest hb hle
    have hmov : (s.arrive m).drive.state.moving = true := by
      rw [State.arrive_drive, hst]
      rfl
    obtain ⟨hs, he, hr, hh, -, hturn, -, -, -, hmode, hrq, -, -, -, hnow⟩ := (s.arrive m).driveReady_ready
    obtain ⟨h1, h2, h3, -⟩ := State.finish_driveStep_of_moving hmov s.link.state
    have ha : (s.arrive m).driveReady = a := rfl
    rw [ha] at hs he hr hh hturn hmode hrq hnow h1 h2 h3
    have hamov : a.drive.state.moving = true := by rw [hs, hmov]
    have hmove : a.driveMove = .engage := by
      refine (State.driveMove_eq_engage_iff hamov).2 ⟨?_, hrest, fun _ => ⟨b, hturn.trans hb, ?_⟩⟩
      · rw [hrq, he]
        exact hreq
      · rw [hnow]
        exact hle
    have hmet : (s.arrive m).turnMet = true := by
      rw [State.turnMet, State.driveStepRuns_of (s := s.arrive m) (by rw [State.arrive_drive, hst]; nofun) hm, Bool.true_and,
        State.arrive_drive, hst]
      exact beq_iff_eq.2 hmove
    refine ⟨_, exec_of_due ht hmet rfl, ?_⟩
    obtain ⟨hd, hf, hrv⟩ := State.driven_of_engage hamov hmove
    rw [h1, h2, h3, hd, hf, hrv, hrq, hmode, he]
    exact ⟨rfl, rfl, rfl, rfl, rfl, rfl, rfl, rfl, fun ho hn => if_pos ⟨ho, hn⟩⟩

/-- A step in blind operation: no integral, and a duty of at most the creep duty. -/
theorem State.driven_of_blind {b : State} (hm : b.drive.state.moving = true) (hb : b.drive.blind = true) :
    b.driven.drive.integ = 0 ∧ b.driven.drive.prevRaw = 0 ∧ b.driven.out.driveF.shadow ≤ b.cfg.drive.creepDuty ∧
      b.driven.out.driveR.shadow ≤ b.cfg.drive.creepDuty := by
  by_cases h : b.driveMove = .engage
  · obtain ⟨hd, hf, hr⟩ := State.driven_of_engage hm h
    rw [hd, hf, hr]
    exact ⟨rfl, rfl, Nat.zero_le _, Nat.zero_le _⟩
  · obtain ⟨hd, hf, hr⟩ := State.driven_of_other h
    have hduty (r : Nat) (i p : Int) : b.duty r i p = (min (feedForward b.cfg.drive r) b.cfg.drive.creepDuty, 0, 0) := by
      rw [State.duty, hb, dutyStage_blind]
    rw [hd, hf, hr, hduty]
    refine ⟨rfl, rfl, ?_, ?_⟩ <;> split
    · exact min_le_right _ _
    · exact Nat.zero_le _
    · exact min_le_right _ _
    · exact Nat.zero_le _

/-- Settles O22: the detection is met on what the pedal stage leaves, which is nothing of its operands. -/
theorem blindDetectionLatchesTheSensor : Obligations.BlindDetectionLatchesTheSensor := by
  intro m s b ht hm hst hbl hraw hz hb hle
  have hmov : (s.arrive m).drive.state.moving = true := by
    rw [State.arrive_drive]
    rcases hst with h | h <;> rw [h] <;> rfl
  have hdis : (s.arrive m).drive.state ≠ .disabled := by
    rw [State.arrive_drive]
    rcases hst with h | h <;> rw [h] <;> nofun
  have hduty : 300 ≤ (clampInt 0 1000 s.drive.prevRaw).toNat := by
    unfold clampInt
    omega
  have hcond : ((s.drive.state == .driving || s.drive.state == .turning) && !s.drive.blind && decide (300 ≤ s.drive.lastDuty) &&
      s.capture.wheel.zeroRate) = true := by
    rw [hbl, hz, Drive.lastDuty, decide_eq_true hduty]
    rcases hst with h | h <;> rw [h] <;> rfl
  have htimed (u : State) (hd : u.drive.state = s.drive.state ∧ u.drive.blind = s.drive.blind ∧
      u.drive.prevRaw = s.drive.prevRaw ∧ u.drive.blindTimer = s.drive.blindTimer) (hc : u.capture = s.capture)
      (hn : u.now = s.now + m.dt) : ranFor u.blindTiming u.now (ms 2000) = true := by
    obtain ⟨h1, h2, h3, h4⟩ := hd
    refine (ranFor_runWhile_iff (by decide)).2 ⟨?_, b, h4.trans hb, ?_⟩
    · rw [Drive.lastDuty, h1, h2, h3, hc]
      exact hcond
    · rw [hn]
      exact hle
  have hmet : (s.arrive m).blindMetAtStep = true := by
    rw [State.blindMetAtStep, State.driveStepRuns_of (s := s.arrive m) hdis hm, Bool.true_and]
    exact htimed _ ⟨rfl, rfl, rfl, rfl⟩ rfl rfl
  refine ⟨_, exec_of_due ht hmet rfl, ?_⟩
  obtain ⟨f, d, r, hp⟩ := (s.arrive m).pedalStage_drive
  have hran := htimed (s.arrive m).pedalStage (by rw [hp]; exact ⟨rfl, rfl, rfl, rfl⟩)
    (State.pedalStage_keeps _).2.2.2.2.2.2.2.2.2.2.1 (State.pedalStage_keeps _).1
  have hready : (s.arrive m).driveReady = _ := State.blindStage_of_met hran
  have R := (s.arrive m).driveReady_ready
  have hb' : (s.arrive m).driveReady.drive.blind = true := by rw [hready]; rfl
  have hrec : (s.arrive m).driveReady.ctl.record .drive = some { source := .drive, code := .wheelSensor, state := .latched } := by
    rw [hready, State.postDrive, State.setCtl_ctl, Controller.record_putRecord, if_pos rfl]
  obtain ⟨h1, h2, h3, -⟩ := State.finish_driveStep_of_moving hmov s.link.state
  obtain ⟨hi, hpr, hF, hR⟩ := State.driven_of_blind (b := (s.arrive m).driveReady) (by rw [R.state, hmov]) hb'
  have hcfg : s.cfg = (s.arrive m).driveReady.cfg := R.cfg.symm
  obtain ⟨-, -, hbb, hctl, -⟩ := (s.arrive m).driveReady.driven_pedal
  rw [h1, h2, h3, hi, hpr, hbb, hcfg]
  refine ⟨hb', rfl, rfl, ?_, hF, hR⟩
  rw [State.finish_ctl, State.settle_ctl_record, State.driveStep_of_moving hmov, State.setPark_ctl, hctl, hrec]

/-! ### The limits and figures of the drive step -/

theorem State.demandFor_le_cap (s : State) (e : Dir) : s.demandFor e ≤ s.effectiveCap := by
  unfold State.demandFor
  dsimp only
  split_ifs <;> omega

theorem State.demandFor_neutral (s : State) : s.demandFor .neutral = 0 := by
  unfold State.demandFor
  exact if_pos rfl

theorem State.rampToward_rise {s : State} {d : Nat} (h : s.drive.ramp < s.rampToward d) :
    s.rampToward d ≤ d ∧ s.rampToward d ≤ s.drive.ramp + s.cfg.drive.aUp ∧ 0 < d := by
  unfold State.rampToward at h ⊢
  dsimp only at h ⊢
  split at h
  · rename_i hlt
    rw [if_pos hlt]
    omega
  · omega

/-- A step raises the ramp target by A_up at most, never above the cap, nor with N engaged. -/
theorem State.driven_rise {b : State} (hm : b.drive.state.moving = true) (h : b.drive.ramp < b.driven.drive.ramp) :
    b.driven.drive.ramp ≤ b.effectiveCap ∧ b.driven.drive.ramp ≤ b.drive.ramp + b.cfg.drive.aUp ∧
      b.driven.drive.engaged ≠ .neutral := by
  by_cases he : b.driveMove = .engage
  · rw [(State.driven_of_engage hm he).1] at h
    exact absurd h (Nat.not_lt_zero _)
  · rw [(State.driven_of_other he).1] at h ⊢
    obtain ⟨hd, hup, hpos⟩ := State.rampToward_rise h
    refine ⟨hd.trans ?_, hup, fun hn => ?_⟩
    · split
      · exact Nat.zero_le _
      · exact b.demandFor_le_cap _
    · have hn' : b.drive.engaged = .neutral := hn
      rw [hn', State.demandFor_neutral, ite_self] at hpos
      exact absurd hpos (Nat.lt_irrefl 0)

theorem feedForward_eq (i : DriveCfg) (r : Nat) :
    feedForward i r = if r = 0 then 0 else min 1000 (i.uMin + r * (1000 - i.uMin) / i.paceFull) := by
  unfold feedForward clampNat
  rw [Nat.zero_max]

/-- The duty stage in sighted operation, away from rest. -/
theorem dutyStage_sighted (i : DriveCfg) {r speed : Nat} (integ prevRaw : Int) (h : ¬(r = 0 ∧ speed ≤ 30)) :
    (dutyStage i false r speed integ prevRaw).2.1 = integrate i integ prevRaw ((r : Int) - speed) ∧
      (dutyStage i false r speed integ prevRaw).2.2 =
        (feedForward i r : Int) + ((i.kp : Int) * ((r : Int) - speed)).tdiv 1000 +
          (integrate i integ prevRaw ((r : Int) - speed)).tdiv 100 ∧
      (dutyStage i false r speed integ prevRaw).1 =
        (max 0 (min 1000 (dutyStage i false r speed integ prevRaw).2.2)).toNat := by
  unfold dutyStage
  rw [if_neg Bool.false_ne_true, if_neg h]
  exact ⟨rfl, rfl, rfl⟩

/-- The duty of a step, written to the engaged coil unless the hold keeps it, with the integrator and raw output it leaves. -/
theorem State.driven_duty {b : State} (hm : b.drive.state.moving = true) :
    ∃ u : Nat, u ≤ 1000 ∧
      b.driven.out.driveF.shadow = (if b.driven.drive.engaged = .fwd ∧ b.driven.drive.hold ≠ some .fwd then u else 0) ∧
      b.driven.out.driveR.shadow = (if b.driven.drive.engaged = .rev ∧ b.driven.drive.hold ≠ some .rev then u else 0) ∧
      b.driven.drive.integ = (b.duty b.driven.drive.ramp b.drive.integ b.drive.prevRaw).2.1 ∧
      b.driven.drive.prevRaw = (b.duty b.driven.drive.ramp b.drive.integ b.drive.prevRaw).2.2 ∧
      u = (b.duty b.driven.drive.ramp b.drive.integ b.drive.prevRaw).1 := by
  by_cases he : b.driveMove = .engage
  · obtain ⟨hd, hf, hr⟩ := State.driven_of_engage hm he
    obtain ⟨-, hrest, -⟩ := (State.driveMove_eq_engage_iff hm).1 he
    have hz : b.duty 0 b.drive.integ b.drive.prevRaw = (0, 0, 0) := by
      refine dutyStage_rest _ _ _ _ rfl fun hb => ?_
      rwa [State.restSpeed, hb] at hrest
    rw [hf, hr, hd, hz]
    exact ⟨0, Nat.zero_le _, (ite_self 0).symm, (ite_self 0).symm, rfl, rfl, rfl⟩
  · obtain ⟨hd, hf, hr⟩ := State.driven_of_other he
    rw [hf, hr, hd]
    exact ⟨(b.duty b.nextRamp b.drive.integ b.drive.prevRaw).1, dutyStage_le _ _ _ _ _ _, rfl, rfl, rfl, rfl, rfl⟩

theorem Mode.permitsTravel_eq (x : Mode) : x.permitsTravel = (x == .transport || x == .sweep || x == .stowing) := by
  cases x <;> rfl

theorem State.demandFor_eq (s : State) (e : Dir) :
    s.demandFor e =
      if e = .neutral then 0
      else if s.drive.blind = true then
        min (min (if e = .rev then s.drive.pedal * s.modeCap / 1000 * s.cfg.drive.reverseRatio / 100
          else s.drive.pedal * s.modeCap / 1000) s.effectiveCap) s.cfg.general.staleCap
      else min (if e = .rev then s.drive.pedal * s.modeCap / 1000 * s.cfg.drive.reverseRatio / 100
          else s.drive.pedal * s.modeCap / 1000) s.effectiveCap := rfl

theorem State.stopTiming_ran_iff (b : State) :
    ranFor b.stopTiming b.now (ms 2000) = true ↔ b.stopped ∧ ∃ x, b.drive.stopTimer = some x ∧ x + 2000000 ≤ b.now := by
  rw [State.stopTiming, ranFor_runWhile_iff (by decide), State.stopped]
  simp only [Bool.and_eq_true, beq_iff_eq, decide_eq_true_eq, and_assoc]
  rfl

/-- Settles O19: the moving states by the stages of the step, the standing ones by what the step writes at once. -/
theorem driveStepKeepsItsLimits : Obligations.DriveStepKeepsItsLimits := by
  intro m s ht hd hm
  refine ⟨_, exec_of_due ht (State.driveStepRuns_of (s := s.arrive m) hd hm) rfl, ?_⟩
  cases hmov : (s.arrive m).drive.state.moving
  · obtain ⟨hF, hR, hP⟩ := (s.arrive m).driveStep.finish_coils s.link.state
    obtain ⟨f, d, r, hp⟩ := (s.arrive m).pedalStage_drive
    rw [hF, hR, hP, State.finish_drive, State.driveStep_of_not_moving hmov]
    have hstate : s.drive.state.moving = false := hmov
    have hdr : (((s.arrive m).pedalStage.setDrive { (s.arrive m).pedalStage.drive with ramp := 0 }).writeDriveCoils 0 0
      |>.setPark false).drive = { (s.arrive m).pedalStage.drive with ramp := 0 } := rfl
    rw [hdr, hp]
    refine ⟨fun h => absurd h (Nat.not_lt_zero _), fun _ => rfl, fun _ => rfl, Nat.zero_le _, Nat.zero_le _,
      fun _ => ⟨rfl, rfl, rfl, rfl, rfl, rfl⟩, fun h => ?_, fun h => ?_⟩
    · have h' : s.drive.state = .driving ∨ s.drive.state = .turning := h
      rcases h' with h' | h' <;> rw [h'] at hstate <;> exact Bool.noConfusion hstate
    · rcases h with h | h | h <;> rw [h] at hstate <;> exact Bool.noConfusion hstate
  · obtain ⟨hD, hF, hR, hP⟩ := State.finish_driveStep_of_moving hmov s.link.state
    have hN : ((s.arrive m).driveStep.finish s.link.state).now = (s.arrive m).driveReady.now := by
      rw [State.finish_now, (State.driveStep_keeps _).1, ((s.arrive m).driveReady_ready).now]
    have R := (s.arrive m).driveReady_ready
    have hmodeCap : (s.arrive m).driveReady.modeCap = (s.arrive m).modeCap := by
      rw [State.modeCap, State.modeCap, R.mode, R.cfg]
    generalize (s.arrive m).driveStep.finish s.link.state = t at *
    generalize (s.arrive m).driveReady = b at *
    obtain ⟨hst, heng, hramp, hhold, hstop, hturn, hped, hsight, hblind, hmode, hreq, hcap, hcfg, hpace, hnow⟩ := R
    simp only [State.arrive_drive] at hst heng hramp hhold hstop hturn hmov
    simp only [State.arrive_drive, State.arrive_ctl, State.arrive_capture] at hsight hblind hmode hreq hpace
    have hcap' : b.effectiveCap = s.effectiveCap := hcap
    have hcfg' : b.cfg = s.cfg := hcfg
    have hbm : b.drive.state.moving = true := by rw [hst, hmov]
    obtain ⟨hdp, hdf, hdb, hdc, -⟩ := b.driven_pedal
    obtain ⟨u, hu, huF, huR, hI, hRaw, hU⟩ := State.driven_duty hbm
    have hdm : b.driven.drive.state.moving = true := by
      by_cases he : b.driveMove = .engage
      · rw [(State.driven_of_engage hbm he).1]
        show (if _ then DriveState.driving else DriveState.standstill).moving = true
        split <;> rfl
      · rw [(State.driven_of_other he).1]
        exact State.moveStage_moving hbm
    have hpark := State.parkReleased_iff hdm
    refine ⟨fun h => ?_, fun h => ?_, fun h => ?_, ?_, ?_, fun h => ?_, fun h => ?_, fun _ => ?_⟩
    · rw [hD, ← hramp] at h
      rw [hD, ← hcap', ← hramp, ← hcfg']
      exact State.driven_rise hbm h
    · rw [hD] at h
      rw [hF, huF]
      exact if_neg fun ⟨h1, h2⟩ => h.elim (absurd h1) h2
    · rw [hD] at h
      rw [hR, huR]
      exact if_neg fun ⟨h1, h2⟩ => h.elim (absurd h1) h2
    · rw [hF, huF]
      split
      · exact hu
      · exact Nat.zero_le _
    · rw [hR, huR]
      split
      · exact hu
      · exact Nat.zero_le _
    · rcases h with h | h | h <;> rw [h] at hmov <;> exact Bool.noConfusion hmov
    · rw [hP, hpark, ← hD]
      exact h.elim Or.inl fun h => Or.inr (Or.inl h)
    · intro i permits modeCap demand speed go asked ran engages stopped feed e
      have hpermits : permits = b.ctl.mode.permitsTravel := by rw [hmode, Mode.permitsTravel_eq]
      have hdemand (x : Dir) : demand x = b.demandFor x := by
        rw [State.demandFor_eq, hmodeCap, hcap', hcfg', ← hdp, ← hdb, ← hD]
        rfl
      have hspeed : speed = b.restSpeed := by
        show (if t.drive.blind = true then s.drive.ramp else s.capture.pace.natAbs) = _
        rw [State.restSpeed, hD, hdb, hramp, hpace]
      have hgo (x : Dir) : go x = if 0 < b.demandFor x ∧ b.ctl.mode.permitsTravel = true then .driving else .standstill := by
        rw [← hdemand, ← hpermits]
      have hasked : asked ↔ b.ctl.requested ≠ b.drive.engaged := by rw [hreq, heng]
      have hengages : engages ↔ b.driveMove = .engage := by
        rw [State.driveMove_eq_engage_iff hbm, ← hasked, ← hspeed, hst, hturn, ← hN]
      have hstopped : stopped ↔ b.stopped := by
        rw [State.stopped, ← hspeed, ← hdemand, hramp, heng]
      have hfeed : feed = feedForward b.cfg.drive b.driven.drive.ramp := by
        rw [feedForward_eq, hcfg', ← hD]
      have he : e = (b.driven.drive.ramp : Int) - s.capture.pace.natAbs := by rw [← hD]
      clear_value demand go engages stopped asked feed e
      refine ⟨fun h => ?_, fun h => ?_, ⟨u, ?_, ?_, fun hb => ?_, fun hb hz => ?_, fun hb hz => ?_⟩, ?_⟩
      · obtain ⟨hdr, hf, hr⟩ := State.driven_of_engage hbm (hengages.1 h)
        rw [hD, hF, hR, hf, hr, hdr, hgo, hreq, heng, hhold]
        exact ⟨rfl, rfl, rfl, rfl, rfl, rfl, rfl, rfl⟩
      · have hother : b.driveMove ≠ .engage := mt hengages.2 h
        obtain ⟨hdr, -⟩ := State.driven_of_other hother
        rw [hD, hdr]
        refine ⟨heng, hhold, fun ha => ?_, fun ha => ⟨fun h0 => ?_, fun h0 => ?_, fun h0 => ?_⟩, ?_⟩
        · obtain ⟨h1, h2⟩ := State.moveStage_of_asked hbm (hasked.1 ha) hother
          rw [hspeed, hN, ← hst, ← hturn]
          exact ⟨h1, h2⟩
        · have hsame : b.ctl.requested = b.drive.engaged := not_not.1 (mt hasked.2 ha)
          rw [hgo, ← heng]
          exact State.moveStage_of_standstill (hst.trans h0) hsame
        · exact State.moveStage_of_turning (hst.trans h0) (not_not.1 (mt hasked.2 ha))
        · obtain ⟨h1, h2⟩ := State.moveStage_of_driving (hst.trans h0) (not_not.1 (mt hasked.2 ha))
          have hrun := b.stopTiming_ran_iff
          rw [hstop, ← hstopped, ← hN] at hrun
          refine ⟨fun hs hr => ?_, fun hs hr => ?_, fun hs => ?_⟩
          · exact h1.trans (if_pos (hN ▸ hrun.2 ⟨hs, hr⟩))
          · have hno : ¬ranFor b.stopTiming b.now (ms 2000) = true := fun hc => hr (hrun.1 (hN ▸ hc)).2
            rw [if_neg hno] at h1 h2
            refine ⟨h1, h2.trans ?_⟩
            rw [State.stopTiming_of_stopped (hstopped.1 hs), hstop, hN]
          · have hno : ¬ranFor b.stopTiming b.now (ms 2000) = true := fun hc => hs (hrun.1 (hN ▸ hc)).1
            rw [if_neg hno] at h1 h2
            exact ⟨h1, h2.trans (State.stopTiming_of_not_stopped (mt hstopped.2 hs))⟩
        · show b.nextRamp = _
          rw [State.nextRamp, State.rampToward, hdemand, heng, hramp, hcap', hcfg']
      · rw [hF, hD, huF]
      · rw [hR, hD, huR]
      · rw [hD, hdb] at hb
        rw [State.duty, hb, dutyStage_blind] at hI hRaw hU
        rw [hD, hfeed, show i = b.cfg.drive by rw [hcfg']]
        exact ⟨hU, hI, hRaw⟩
      · rw [hD] at hz
        rw [State.duty, dutyStage_rest _ _ _ _ hz.1 fun _ => (congrArg Int.natAbs hpace).trans_le hz.2] at hI hRaw hU
        rw [hD]
        exact ⟨hU, hI, hRaw⟩
      · rw [hD, hdb] at hb
        rw [hD] at hz
        have hspeeds : b.capture.pace.natAbs = s.capture.pace.natAbs := congrArg Int.natAbs hpace
        obtain ⟨hi0, hp0⟩ := hsight hb
        obtain ⟨h1, h2, h3⟩ := dutyStage_sighted b.cfg.drive b.drive.integ b.drive.prevRaw (hspeeds ▸ hz)
        rw [State.duty, hb] at hI hRaw hU
        rw [h1] at hI
        rw [hD, hfeed, hU, h3, hRaw, h2, hI, hi0, hp0, hcfg', hspeeds, he]
        exact ⟨rfl, rfl, rfl⟩
      · rw [hP, hpark, ← hD, hpermits, hdc]

end Sys2Proof.Machine

/-! The brush step by channel (02, sections 2.1 to 2.7): whichever channel goes first, a channel's step is what its own condition,
met on the state before the step, makes of it. -/

namespace Sys2Proof.Machine

/-! ### The turn of a channel in stage 1 (R26, log 7) -/

/-- The state that a channel's turn in stage 1 begins from. -/
def State.brushTurn (s : State) (first c : Chan) : State := if c = first then s else s.brushStage1 first

/-- A state that shows a channel what `s` shows it. -/
structure State.SameForBrush (s v : State) (c : Chan) : Prop where
  brush : v.brush c = s.brush c
  input : v.brushIn c = s.brushIn c
  now : v.now = s.now
  pins : v.pins = s.pins
  cfg : v.cfg = s.cfg
  mode : v.ctl.mode = s.ctl.mode
  supply : v.supplyLow = s.supplyLow
  cap : v.overrunCapNow = s.overrunCapNow
  count : v.ctl.recovery (countedOf c) = s.ctl.recovery (countedOf c)
  record : v.ctl.record (sourceOf (countedOf c)) = s.ctl.record (sourceOf (countedOf c))

theorem State.SameForBrush.refl (s : State) (c : Chan) : s.SameForBrush s c := ⟨rfl, rfl, rfl, rfl, rfl, rfl, rfl, rfl, rfl, rfl⟩

/-- The derived views read the drive, the peer table, the measured pace and the configuration alone (R100 to R105). -/
theorem State.views_of_same {s v : State} (hd : v.drive = s.drive) (hp : v.peers = s.peers) (ho : v.tableOwn = s.tableOwn)
    (hc : v.capture = s.capture) (hl : v.loader = s.loader) :
    v.paceView = s.paceView ∧ v.budgetView = s.budgetView ∧ v.peerDemands = s.peerDemands := by
  have hothers : v.others = s.others := by rw [State.others, State.others, hp, ho]
  have hpeer : v.peer = s.peer := by
    funext n
    rw [State.peer, State.peer, hothers]
  have howner : v.owner = s.owner := by simp only [State.owner, State.claimants, hothers, hd, hl]
  have howns : v.ownsDrive = s.ownsDrive := by rw [State.ownsDrive, State.ownsDrive, howner, hd, hl]
  refine ⟨?_, ?_, by rw [State.peerDemands, State.peerDemands, hothers]⟩
  · rw [State.paceView, State.paceView, howns, howner, hpeer, hd, hc]
  · funext b
    rw [State.budgetView, State.budgetView, howns, howner, hpeer, State.cfg, State.cfg, hl]

/-- What stage 1 of a channel leaves of the places of a source that is not its own. -/
theorem State.brushStage1_other (s : State) {c d : Chan} (h : c ≠ d) :
    (s.brushStage1 d).brush c = s.brush c ∧ (s.brushStage1 d).ctl.recovery (countedOf c) = s.ctl.recovery (countedOf c) ∧
      (s.brushStage1 d).ctl.record (sourceOf (countedOf c)) = s.ctl.record (sourceOf (countedOf c)) ∧
      (s.brushStage1 d).ctl.contrib.transportOf c = s.ctl.contrib.transportOf c ∧
      (s.brushStage1 d).ctl.contrib.afterFaultOf c = s.ctl.contrib.afterFaultOf c := by
  unfold State.brushStage1
  split
  · obtain ⟨x, b, he, ⟨⟨v, l, hx⟩, hrec⟩⟩ := s.editsBrush_applyBrush d (s.brushCause d)
    have hsrc : sourceOf (countedOf c) ≠ sourceOf (countedOf d) := by
      cases c <;> cases d <;> first | decide | exact absurd rfl h
    have hr := hrec _ hsrc
    rw [he]
    subst hx
    cases c <;> cases d <;> first | exact absurd rfl h | exact ⟨rfl, rfl, hr, rfl, rfl⟩
  · exact ⟨rfl, rfl, rfl, rfl, rfl⟩

theorem State.sameForBrush_turn (s : State) (first c : Chan) : s.SameForBrush (s.brushTurn first c) c := by
  unfold State.brushTurn
  split
  · exact .refl s c
  · rename_i h
    obtain ⟨hb, hcount, hrec, -, -⟩ := s.brushStage1_other h
    obtain ⟨hn, hp, hl, hd, hr, -, ho, hpe, -, hc, hv, -⟩ := s.brushStage1_keeps first
    have hf := s.brushFrame_brushStage1 first
    have hctl := hf.ctl
    have hmode : (s.brushStage1 first).ctl.mode = s.ctl.mode := (congrArg Controller.mode hctl :)
    have hsel : (s.brushStage1 first).ctl.selected c = s.ctl.selected c := by
      cases c
      · exact (congrArg Controller.select0 hctl :)
      · exact (congrArg Controller.select1 hctl :)
    have hcfg : (s.brushStage1 first).cfg = s.cfg := by rw [State.cfg, State.cfg, hl]
    obtain ⟨hpace, -⟩ := State.views_of_same hd hpe ho hc hl
    refine ⟨hb, ?_, hn, hp, hcfg, hmode, ?_, ?_, hcount, hrec⟩
    · rw [State.brushIn, State.brushIn, State.brushCalled, State.brushCalled, State.pressure, State.pressure,
        State.pressureStatus, State.pressureStatus, hn, hcfg, hsel, hmode, hp, hv, hc, hr]
    · rw [State.supplyLow, State.supplyLow, hf.supply]
    · rw [State.overrunCapNow, State.overrunCapNow, hpace, State.creepCap, State.creepCap, hcfg]

theorem State.SameForBrush.cause {s v : State} {c : Chan} (h : s.SameForBrush v c) : v.brushCause c = s.brushCause c := by
  rw [State.brushCause, State.brushCause, h.brush, h.input]

theorem State.brushCauseAtStep_eq (s : State) (first c : Chan) : s.brushCauseAtStep first c = s.brushCause c := by
  have h := (s.sameForBrush_turn first c).cause
  unfold State.brushTurn at h
  unfold State.brushCauseAtStep
  split
  · rfl
  · rename_i hne
    rwa [if_neg hne] at h

/-! ### Stage 3 (R45, R46) -/

/-- Stage 3 of a channel, from its granted speed and its pickup's speed. -/
def Brush.stage3 (b : Brush) (i : BrushCfg) (granted speed : Nat) : Brush :=
  if b.state.working then b.motorStep i granted speed else if b.state = .disabled then b else { b with lastDuty := 0 }

/-- Stage 3 touches the motor's figures alone. -/
theorem Brush.stage3_keeps (b : Brush) (i : BrushCfg) (g n : Nat) :
    ∃ x y z, b.stage3 i g n = { b with trim := x, prevDuty := y, lastDuty := z } := by
  unfold Brush.stage3
  split
  · unfold Brush.motorStep
    split
    · exact ⟨b.trim, b.prevDuty, 0, rfl⟩
    · exact ⟨_, _, _, rfl⟩
  · split
    · exact ⟨b.trim, b.prevDuty, b.lastDuty, rfl⟩
    · exact ⟨b.trim, b.prevDuty, 0, rfl⟩

theorem Brush.stage3_of_working {b : Brush} (h : b.state.working = true) (i : BrushCfg) (g n : Nat) :
    b.stage3 i g n = b.motorStep i g n := if_pos h

theorem Brush.stage3_of_idle {b : Brush} (h : b.state.working = false) (hd : b.state ≠ .disabled) (i : BrushCfg) (g n : Nat) :
    b.stage3 i g n = { b with lastDuty := 0 } := by
  unfold Brush.stage3
  rw [h, if_neg Bool.false_ne_true, if_neg hd]

/-- A channel whose duty is already 0. -/
theorem Brush.stage3_of_off {b : Brush} (h : b.state.working = false) (hz : b.lastDuty = 0) (i : BrushCfg) (g n : Nat) :
    b.stage3 i g n = b := by
  by_cases hd : b.state = .disabled
  · unfold Brush.stage3
    rw [h, if_neg Bool.false_ne_true, if_pos hd]
  · rw [Brush.stage3_of_idle h hd, ← hz]

/-- The share of the step and the speed of a channel's pickup, as its stage 3 reads them. -/
def State.stage3For (s : State) (c : Chan) (b : Brush) : Brush :=
  b.stage3 (s.cfg.brush c) (s.ration.share c).granted (s.capture.input (pickupOf c)).rate

theorem State.brushStage3_of_enabled {s : State} {c : Chan} (h : (s.brush c).state ≠ .disabled) :
    s.brushStage3 c = s.setBrush c (s.stage3For c (s.brush c)) := by
  unfold State.brushStage3 State.stage3For
  dsimp only
  split
  · rename_i hw
    rw [Brush.stage3_of_working hw]
  · rename_i hw
    rw [Brush.stage3_of_idle (Bool.eq_false_iff.2 hw) h]

theorem State.brushStage3_other (s : State) {c d : Chan} (h : c ≠ d) :
    (s.brushStage3 d).brush c = s.brush c ∧ (s.brushStage3 d).out.lift c = s.out.lift c ∧
      (s.brushStage3 d).out.float c = s.out.float c ∧
      ((s.brushStage3 d).out.coil (valveOf c)) = s.out.coil (valveOf c) := by
  by_cases hd : (s.brush d).state = .disabled
  · have he : s.brushStage3 d = s := by
      unfold State.brushStage3
      dsimp only
      rw [hd]
      rfl
    rw [he]
    exact ⟨rfl, rfl, rfl, rfl⟩
  · rw [State.brushStage3_of_enabled hd]
    obtain ⟨hl, hf⟩ := s.setBrush_out_lift_ne (s.stage3For d (s.brush d)) h
    exact ⟨State.setBrush_brush_ne _ _ h, hl, hf, State.setBrush_out_coil_ne _ _ (valveOf_ne h)⟩

/-- A channel's outputs are as R28 and R45 set them from its figures. -/
def State.ArmDriven (s : State) (c : Chan) : Prop :=
  s.out.lift c = (s.brush c).lifting ∧ s.out.float c = (s.brush c).state.working ∧
    (s.out.coil (valveOf c)).shadow = (s.brush c).lastDuty

theorem State.armDriven_setBrush (s : State) (c : Chan) (b : Brush) : (s.setBrush c b).ArmDriven c := by
  obtain ⟨hl, hf⟩ := s.setBrush_out_lift c b
  rw [State.ArmDriven, hl, hf, State.setBrush_out_coil, State.setBrush_brush]
  exact ⟨rfl, rfl, rfl⟩

/-- Stage 3 of both channels gives each its own, and leaves the outputs of R28 and R45. -/
theorem State.stage3Both {s : State} {c : Chan} (h : (s.brush c).state ≠ .disabled) :
    ((s.brushStage3 .c0).brushStage3 .c1).brush c = s.stage3For c (s.brush c) ∧
      ((s.brushStage3 .c0).brushStage3 .c1).ArmDriven c := by
  cases c with
  | c0 =>
    obtain ⟨hb, hl, hf, hc⟩ := (s.brushStage3 .c0).brushStage3_other (c := .c0) (d := .c1) (by decide)
    rw [State.ArmDriven, hb, hl, hf, hc, State.brushStage3_of_enabled h]
    exact ⟨State.setBrush_brush _ _ _, State.armDriven_setBrush _ _ _⟩
  | c1 =>
    obtain ⟨hb, -⟩ := s.brushStage3_other (c := .c1) (d := .c0) (by decide)
    obtain ⟨-, -, hl, -, hr, -, -, -, -, -, hc, -⟩ := s.brushStage3_keeps .c0
    have hcfg : (s.brushStage3 .c0).cfg = s.cfg := by rw [State.cfg, State.cfg, hl]
    rw [State.brushStage3_of_enabled (by rw [hb]; exact h)]
    refine ⟨?_, State.armDriven_setBrush _ _ _⟩
    rw [State.setBrush_brush, State.stage3For, State.stage3For, hb, hr, hc, hcfg]

/-! ### The whole step for one channel -/

theorem State.settle_ownCap_le_of_overrun {s : State} {c : Chan} {v : Nat} (h : s.contributions.overrunOf c = some v) :
    s.settle.ctl.ownCap ≤ v := by
  rw [State.settle_ctl_eq]
  dsimp only
  split
  · exact Nat.zero_le _
  · refine least_le (List.mem_cons_of_mem _ (List.mem_filterMap.2 ⟨some v, ?_, rfl⟩))
    rw [← h]
    cases c <;> simp [Contributions.overrunOf]

/-- What a brush step makes of a channel whose stage 1 left `x`. -/
structure State.BrushStepped (s x t : State) (c : Chan) : Prop where
  brush : t.brush c = (x.brush c).stage3 (s.cfg.brush c) (t.ration.share c).granted (s.capture.input (pickupOf c)).rate
  driven : t.ArmDriven c
  now : t.now = s.now
  count : t.ctl.recovery (countedOf c) = x.ctl.recovery (countedOf c)
  record : t.ctl.record (sourceOf (countedOf c)) = x.ctl.record (sourceOf (countedOf c))
  overrun : t.ctl.contrib.overrunOf c = if (t.brush c).overrun = true then some (t.brush c).overrunCap else none
  cap : ∀ v, t.ctl.contrib.overrunOf c = some v → t.ctl.ownCap ≤ v
  transport : t.ctl.contrib.transportOf c =
    if s.ctl.mode = .transport ∧ armUpOf s.pins c = false then some s.cfg.drive.sweepCap else none
  afterFault : t.ctl.contrib.afterFaultOf c =
    if ((x.brush c).state = .fault ∨ (x.brush c).state = .latched) ∧ armUpOf s.pins c = false then
      some s.cfg.general.staleCap
    else none

theorem State.armContributions_of (s : State) (c : Chan) :
    (s.armContributions c).brush c = s.brush c ∧ (s.armContributions c).ctl.recovery (countedOf c) = s.ctl.recovery (countedOf c) ∧
      (s.armContributions c).ctl.record (sourceOf (countedOf c)) = s.ctl.record (sourceOf (countedOf c)) ∧
      (s.armContributions c).ctl.contrib.transportOf c =
        (if (s.ctl.mode == .transport && !armUpOf s.pins c) = true then some s.cfg.drive.sweepCap else none) ∧
      (s.armContributions c).ctl.contrib.afterFaultOf c =
        (if (((s.brush c).state == .fault || (s.brush c).state == .latched) && !armUpOf s.pins c) = true then some s.creepCap
        else none) := by
  cases c <;> exact ⟨rfl, rfl, rfl, rfl, rfl⟩

/-- What stage 1 leaves of a channel: its condition's effect at its turn, with its contributions posted (R52). -/
structure State.Stage1Done (s x y : State) (c : Chan) : Prop where
  brush : y.brush c = x.brush c
  count : y.ctl.recovery (countedOf c) = x.ctl.recovery (countedOf c)
  record : y.ctl.record (sourceOf (countedOf c)) = x.ctl.record (sourceOf (countedOf c))
  transport : y.ctl.contrib.transportOf c =
    if s.ctl.mode = .transport ∧ armUpOf s.pins c = false then some s.cfg.drive.sweepCap else none
  afterFault : y.ctl.contrib.afterFaultOf c =
    if ((x.brush c).state = .fault ∨ (x.brush c).state = .latched) ∧ armUpOf s.pins c = false then
      some s.cfg.general.staleCap
    else none

theorem State.applyBrush_mode (s : State) (c : Chan) (cause : BrushCause) : (s.applyBrush c cause).ctl.mode = s.ctl.mode := by
  obtain ⟨x, b, he, ⟨⟨v, l, hx⟩, -⟩⟩ := s.editsBrush_applyBrush c cause
  rw [he, hx, State.setBrush_ctl]
  cases c <;> rfl

/-- The channel's own turn. -/
theorem State.SameForBrush.stage1 {s v : State} {c : Chan} (h : s.SameForBrush v c) (hc : (s.brush c).state ≠ .disabled) :
    s.Stage1Done (v.applyBrush c (s.brushCause c)) (v.brushStage1 c) c := by
  have hen : v.brushEnabled c = true := by simp [State.brushEnabled, h.brush, hc]
  have he : v.brushStage1 c = (v.applyBrush c (s.brushCause c)).armContributions c := by
    unfold State.brushStage1
    rw [if_pos hen, h.cause]
  obtain ⟨hb, hcount, hrec, ht, ha⟩ := (v.applyBrush c (s.brushCause c)).armContributions_of c
  have hmode := (v.applyBrush_mode c (s.brushCause c)).trans h.mode
  obtain ⟨-, hp, hl, -⟩ := v.applyBrush_keeps c (s.brushCause c)
  have hcfg : (v.applyBrush c (s.brushCause c)).cfg = s.cfg := by rw [State.cfg, hl]; exact h.cfg
  rw [hmode, hp, hcfg, h.pins] at ht
  rw [State.creepCap, hp, hcfg, h.pins] at ha
  rw [he]
  refine ⟨hb, hcount, hrec, ht.trans ?_, ha.trans ?_⟩
  · simp only [Bool.and_eq_true, beq_iff_eq, Bool.not_eq_true']
  · simp only [Bool.and_eq_true, Bool.or_eq_true, beq_iff_eq, Bool.not_eq_true']

theorem otherChan_of_ne {c d : Chan} (h : c ≠ d) : otherChan d = c := by
  cases c <;> cases d <;> first | rfl | exact absurd rfl h

theorem ne_otherChan (c : Chan) : c ≠ otherChan c := by cases c <;> decide

theorem State.stage1Both_done (s : State) (first : Chan) {c : Chan} (hc : (s.brush c).state ≠ .disabled) :
    s.Stage1Done ((s.brushTurn first c).applyBrush c (s.brushCause c)) (s.brushStage1Both first) c := by
  have h := (s.sameForBrush_turn first c).stage1 hc
  by_cases hf : c = first
  · subst hf
    obtain ⟨h1, h2, h3, h4, h5⟩ := h
    have hv : s.brushTurn c c = s := if_pos rfl
    rw [hv] at h1 h2 h3 h4 h5 ⊢
    obtain ⟨k1, k2, k3, k4, k5⟩ := (s.brushStage1 c).brushStage1_other (ne_otherChan c)
    exact ⟨k1.trans h1, k2.trans h2, k3.trans h3, k4.trans h4, k5.trans h5⟩
  · have hv : s.brushTurn first c = s.brushStage1 first := if_neg hf
    rw [hv] at h ⊢
    unfold State.brushStage1Both
    rw [otherChan_of_ne hf]
    exact h

theorem State.rationStep_ctl (s : State) :
    ∃ r, s.rationStep.ctl = { s.ctl with contrib := { s.ctl.contrib with ration := r } } := by
  unfold State.rationStep
  dsimp only
  split
  · exact ⟨_, rfl⟩
  · exact ⟨_, rfl⟩

/-- The ration unit of the step is formed from what stage 1 left (R55). -/
theorem State.rationStep_ration (s : State) : s.rationStep.ration = s.formRation := by
  unfold State.rationStep
  dsimp only
  split <;> rfl

theorem State.brush_of_keeps {s t : State} (h0 : t.brush0 = s.brush0) (h1 : t.brush1 = s.brush1) (c : Chan) :
    t.brush c = s.brush c := by
  cases c
  · exact h0
  · exact h1

theorem State.brushStep_ration (s : State) (first : Chan) :
    (s.brushStep first).ration = (s.brushStage1Both first).formRation := by
  unfold State.brushStep
  rw [(State.brushStage3_keeps _ _).2.2.2.2.1, (State.brushStage3_keeps _ _).2.2.2.2.1, State.rationStep_ration]

theorem State.armDriven_finish {s : State} {c : Chan} (h : s.ArmDriven c) (b : LinkState) : (s.finish b).ArmDriven c := by
  obtain ⟨h1, h2, h3⟩ := h
  rw [State.ArmDriven, State.finish_out, State.finish_brush]
  refine ⟨?_, ?_, ?_⟩
  · rw [← h1]; cases c <;> rfl
  · rw [← h2]; cases c <;> rfl
  · rw [State.settle_out_coil, CoilOut.forced_shadow, h3]

/-! ### What a condition makes of a channel -/

/-- The HOLD ceiling's adjustment sets the ceiling alone. -/
theorem Brush.adjustCeiling_keeps (b : Brush) (i : BrushIn) : ∃ z, b.adjustCeiling i = { b with ceiling := z } := by
  unfold Brush.adjustCeiling
  split
  · split
    · exact ⟨_, rfl⟩
    · split
      · exact ⟨_, rfl⟩
      · exact ⟨b.ceiling, rfl⟩
  · exact ⟨b.ceiling, rfl⟩

theorem State.setBrushAndRecord_brush (s : State) (c : Chan) (b : Brush) : (s.setBrushAndRecord c b).brush c = b := by
  unfold State.setBrushAndRecord
  dsimp only
  split <;> exact State.setBrush_brush _ _ _

theorem Brush.endSpinDown_state (b : Brush) (i : BrushIn) :
    (b.endSpinDown i).state = if i.armUp = true then (if b.starved = true then .waiting else .stowed) else b.state := by
  unfold Brush.endSpinDown
  split <;> rfl

/-- The state in which a raise begins: a spin-down of 0 ends at once. -/
theorem Brush.enterRaisingAtStep_state (b : Brush) (i : BrushIn) (starved : Bool) :
    (b.enterRaisingAtStep i starved).state =
      if i.cfg.spinDown = 0 ∧ i.armUp = true then (if starved = true then .waiting else .stowed) else .raising := by
  unfold Brush.enterRaisingAtStep
  dsimp only
  by_cases h : i.cfg.spinDown = 0
  · rw [if_pos h, Brush.endSpinDown_state]
    simp only [h, true_and]
    rfl
  · rw [if_neg h, if_neg fun hc => h hc.1]
    rfl

theorem Brush.enterRaisingAtStep_enabled (b : Brush) (i : BrushIn) (starved : Bool) :
    (b.enterRaisingAtStep i starved).state ≠ .disabled := by
  rw [Brush.enterRaisingAtStep_state]
  split_ifs <;> decide

/-- No condition makes a channel DISABLED. -/
theorem State.applyBrush_enabled {s : State} {c : Chan} (h : (s.brush c).state ≠ .disabled) (cause : BrushCause) :
    ((s.applyBrush c cause).brush c).state ≠ .disabled := by
  have hadjust (b : Brush) (i : BrushIn) : (b.adjustCeiling i).state = b.state := by
    obtain ⟨z, hz⟩ := b.adjustCeiling_keeps i
    rw [hz]
  have hfault (code : FaultCode) : ((s.brushFault c code).brush c).state ≠ .disabled := by
    rw [State.brushFault_eq, State.setBrush_brush]
    cases (s.ctl.post s.now (countedOf c) code).2 <;> nofun
  unfold State.applyBrush
  cases cause <;> dsimp only
  case none =>
    rw [State.setBrush_brush]
    split
    · rw [hadjust]
      exact h
    · exact h
  case called | resumed | lost | contact | waitingReleased =>
    simp only [State.setBrush_brush, State.setBrushAndRecord_brush]
    nofun
  case released | starved =>
    rw [State.setBrushAndRecord_brush]
    exact Brush.enterRaisingAtStep_enabled _ _ _
  case armUp =>
    rw [State.setBrushAndRecord_brush]
    show (if _ then BrushState.waiting else BrushState.stowed) ≠ .disabled
    split <;> decide
  case spinDownEnd =>
    rw [State.setBrushAndRecord_brush, Brush.endSpinDown_state]
    split_ifs
    · decide
    · decide
    · exact h
  case recoveryEnd =>
    split
    · rw [State.setBrush_brush]
      nofun
    · rw [State.setBrushAndRecord_brush]
      exact Brush.enterRaisingAtStep_enabled _ _ _
  case overrunOnset | overrunClear =>
    rw [State.setBrush_brush]
    exact (hadjust _ _).trans_ne h
  all_goals exact hfault _

/-- The whole brush step for a channel that is not DISABLED, whichever goes first. -/
theorem State.brushStep_stepped (s : State) (first : Chan) {c : Chan} (hc : (s.brush c).state ≠ .disabled) (l : LinkState) :
    s.BrushStepped ((s.brushTurn first c).applyBrush c (s.brushCause c)) ((s.brushStep first).finish l) c := by
  have hdone := s.stage1Both_done first hc
  have hstage := s.brushStage1Both_keeps first
  have hx : (((s.brushTurn first c).applyBrush c (s.brushCause c)).brush c).state ≠ .disabled := by
    refine State.applyBrush_enabled ?_ _
    rw [(s.sameForBrush_turn first c).brush]
    exact hc
  generalize (s.brushTurn first c).applyBrush c (s.brushCause c) = x at *
  obtain ⟨hb, hcount, hrec, ht, ha⟩ := hdone
  have hy : s.brushStep first = (((s.brushStage1Both first).rationStep).brushStage3 .c0).brushStage3 .c1 := rfl
  generalize s.brushStage1Both first = y at *
  obtain ⟨yn, -, yl, -, -, -, -, -, -, yc, -, -⟩ := hstage
  obtain ⟨rn, -, rl, r0, r1, -, -, -, -, rc, -, -⟩ := y.rationStep_keeps
  obtain ⟨q, hq⟩ := y.rationStep_ctl
  have hbr : y.rationStep.brush c = x.brush c := (State.brush_of_keeps r0 r1 c).trans hb
  obtain ⟨h3, h4⟩ := State.stage3Both (s := y.rationStep) (c := c) (by rw [hbr]; exact hx)
  obtain ⟨n3, -, -, -, t3, -, -, -, -, c3, -⟩ := y.rationStep.brushStage3_keeps .c0
  obtain ⟨n4, -, -, -, t4, -, -, -, -, c4, -⟩ := (y.rationStep.brushStage3 .c0).brushStage3_keeps .c1
  rw [← hy] at h3 h4 n4 t4 c4
  have hctl : (s.brushStep first).ctl = { y.ctl with contrib := { y.ctl.contrib with ration := q } } := by rw [c4, c3, hq]
  have hcfg : y.rationStep.cfg = s.cfg := by rw [State.cfg, State.cfg, rl, yl]
  have hrn : (s.brushStep first).ration = y.rationStep.ration := t4.trans t3
  generalize s.brushStep first = u at *
  constructor
  case brush =>
    rw [State.finish_brush, h3, State.stage3For, hbr, hcfg, rc, yc, State.finish_ration, hrn]
  case driven => exact State.armDriven_finish h4 l
  case now => rw [State.finish_now, n4, n3, rn, yn]
  case count =>
    rw [State.finish_ctl, State.settle_ctl_recovery, hctl, ← hcount]
    cases c <;> rfl
  case record => rw [State.finish_ctl, State.settle_ctl_record, hctl, ← hrec]; rfl
  case overrun =>
    rw [State.finish_ctl, State.settle_ctl_contrib, Contributions.overrunOf_contributions, State.finish_brush]
  case cap =>
    intro v hv
    rw [State.finish_ctl, State.settle_ctl_contrib] at hv
    rw [State.finish_ctl]
    exact State.settle_ownCap_le_of_overrun hv
  case transport =>
    rw [State.finish_ctl, State.settle_ctl_contrib, Contributions.transportOf_contributions, hctl, ← ht]
    cases c <;> rfl
  case afterFault =>
    rw [State.finish_ctl, State.settle_ctl_contrib, Contributions.afterFaultOf_contributions, hctl, ← ha]
    cases c <;> rfl

theorem State.brushStepRuns_of {s : State} (hl : s.loader.state = .done) (hm : s.ctl.mode ≠ .standby) :
    s.brushStepRuns = true := by
  simp [State.brushStepRuns, State.loaded, hl, hm]

/-- A brush row whose condition the channel meets is the whole brush step. -/
theorem exec_brushMeets {i : Instr} {s : State} {m : Moment} {first c : Chan} {x : BrushCause} (ht : s.takeable = false)
    (hl : s.loader.state = .done) (hm : s.ctl.mode ≠ .standby) (hx : (s.arrive m).brushCause c = x)
    (he : exec i s = .next (s.event m (fun a => a.brushMeets first c (· == x)) (State.brushStep first))) :
    exec i s = .next (((s.arrive m).brushStep first).finish s.link.state) := by
  refine exec_of_due ht ?_ he
  have hruns : (s.arrive m).brushStepRuns = true := State.brushStepRuns_of hl hm
  show (s.arrive m).brushMeets first c (· == x) = true
  rw [State.brushMeets, hruns, State.brushCauseAtStep_eq, hx, Bool.true_and]
  exact beq_self_eq_true x

end Sys2Proof.Machine

/-! The rows of the brush channels (02): O25 to O29. -/

namespace Sys2Proof.Machine

/-! ### What a channel's step meets, by its state -/

theorem Brush.cause_of_stowed {b : Brush} (h : b.state = .stowed) (i : BrushIn) :
    (b.tick i).cause i = if i.overHard = true then .hardLimit else if i.called = true then .called else .none := by
  have hs : (b.tick i).state = .stowed := h
  unfold Brush.cause
  simp only [hs]

theorem Brush.cause_of_descending {b : Brush} (h : b.state = .descending) (i : BrushIn) :
    (b.tick i).cause i = (b.tick i).descendingCause i := by
  have hs : (b.tick i).state = .descending := h
  unfold Brush.cause
  simp only [hs]

theorem Brush.cause_of_sweeping {b : Brush} (h : b.state = .sweeping) (i : BrushIn) :
    (b.tick i).cause i = (b.tick i).sweepingCause i := by
  have hs : (b.tick i).state = .sweeping := h
  unfold Brush.cause
  simp only [hs]

theorem Brush.cause_of_raising {b : Brush} (h : b.state = .raising) (i : BrushIn) :
    (b.tick i).cause i = (b.tick i).raisingCause i := by
  have hs : (b.tick i).state = .raising := h
  unfold Brush.cause
  simp only [hs]

theorem Brush.cause_of_waiting {b : Brush} (h : b.state = .waiting) (i : BrushIn) :
    (b.tick i).cause i =
      if i.overHard = true then .hardLimit
      else if (!i.called) = true then .waitingReleased
      else if ranFor (b.tick i).resumeTimer i.now (ms 1000) = true then .resumed
      else .none := by
  have hs : (b.tick i).state = .waiting := h
  unfold Brush.cause
  simp only [hs]

theorem Brush.cause_of_fault {b : Brush} (h : b.state = .fault) (i : BrushIn) :
    (b.tick i).cause i = if ranFor (b.tick i).recoveryTimer i.now (ms 2000) = true then .recoveryEnd else .none := by
  have hs : (b.tick i).state = .fault := h
  unfold Brush.cause
  simp only [hs]

/-- A released channel that works raises. -/
theorem Brush.cause_of_released {b : Brush} (h : b.state = .descending ∨ b.state = .sweeping) {i : BrushIn} (hc : i.called = false) :
    (b.tick i).cause i = .released := by
  have hn : (!i.called) = true := by rw [hc]; rfl
  rcases h with h | h
  · rw [Brush.cause_of_descending h]
    exact if_pos hn
  · rw [Brush.cause_of_sweeping h]
    exact if_pos hn

theorem ms_pos {n : Nat} (h : 0 < n) : 0 < ms n := Nat.mul_pos h (by decide)

/-- A called SWEEPING channel that is neither starved nor at a loss of contact. -/
theorem Brush.sweepingCause_of_fed {b : Brush} {i : BrushIn} (hc : i.called = true) (hs : b.starveTimer = none)
    (hl : b.lossTimer = none) (ht : 0 < i.cfg.tLoss) :
    (b.tick i).sweepingCause i = (b.tick i).pressureCause i ((b.tick i).overrunCause i) := by
  have h1 : ranFor (b.tick i).starveTimer i.now (ms 2000) = false := by
    show ranFor (runWhile _ b.starveTimer i.now) i.now _ = false
    rw [hs]
    exact ranFor_runWhile_none _ _ (by decide)
  have h2 : ranFor (b.tick i).lossTimer i.now (ms i.cfg.tLoss) = false := by
    show ranFor (runWhile _ b.lossTimer i.now) i.now _ = false
    rw [hl]
    exact ranFor_runWhile_none _ _ (ms_pos ht)
  unfold Brush.sweepingCause
  simp only [hc, h1, h2, Bool.not_true, Bool.false_eq_true, if_false]

/-- No pressure or sensor fault. -/
theorem Brush.pressureCause_of_clear {b : Brush} {i : BrushIn} (hh : i.overHard = false) (hu : i.usable = true)
    (ht : ranFor b.tripTimer i.now (ms i.cfg.tTrip) = false) (hs : ranFor b.stallTimer i.now (ms i.cfg.tHoldMax) = false)
    (x : BrushCause) : b.pressureCause i x = x := by
  unfold Brush.pressureCause
  simp only [hh, hu, ht, hs, Bool.not_true, Bool.false_eq_true, if_false]

/-! ### A brush row's step -/

theorem exec_brushRow_stepped {i : Instr} {s : State} {m : Moment} {first c : Chan} {x : BrushCause} (ht : s.takeable = false)
    (hl : s.loader.state = .done) (hm : s.ctl.mode ≠ .standby) (hc : (s.brush c).state ≠ .disabled)
    (hx : (s.arrive m).brushCause c = x)
    (he : exec i s = .next (s.event m (fun a => a.brushMeets first c (· == x)) (State.brushStep first))) :
    ∃ v t, exec i s = .next t ∧ (s.arrive m).SameForBrush v c ∧ (s.arrive m).BrushStepped (v.applyBrush c x) t c := by
  refine ⟨_, _, exec_brushMeets ht hl hm hx he, (s.arrive m).sameForBrush_turn first c, ?_⟩
  have h := (s.arrive m).brushStep_stepped first (c := c) hc s.link.state
  rwa [hx] at h

/-- Stage 3 leaves everything of a channel but its motor's figures. -/
theorem State.BrushStepped.kept {s x t : State} {c : Chan} (h : s.BrushStepped x t c) :
    ∃ p q r, t.brush c = { x.brush c with trim := p, prevDuty := q, lastDuty := r } := by
  obtain ⟨p, q, r, hk⟩ := (x.brush c).stage3_keeps (s.cfg.brush c) (t.ration.share c).granted (s.capture.input (pickupOf c)).rate
  exact ⟨p, q, r, h.brush.trans hk⟩

/-- The arm of a working channel floats. -/
theorem State.ArmDriven.of_working {t : State} {c : Chan} (h : t.ArmDriven c) (hw : (t.brush c).state.working = true) :
    t.out.float c = true ∧ t.out.lift c = false := by
  obtain ⟨hl, hf, -⟩ := h
  refine ⟨hf.trans hw, hl.trans (Brush.lifting_of_state fun hr => ?_)⟩
  rw [hr] at hw
  exact Bool.noConfusion hw

/-- The brush rows' common reading of the channel before the step. -/
theorem State.SameForBrush.read {s v : State} {m : Moment} {c : Chan} (h : (s.arrive m).SameForBrush v c) :
    v.brush c = s.brush c ∧ v.brushIn c = (s.arrive m).brushIn c ∧ v.now = s.now + m.dt :=
  ⟨h.brush.trans (State.brush_of_keeps rfl rfl c), h.input, h.now⟩

/-- A timing that has run, with its condition, since before. -/
theorem ranFor_runWhile {c : Bool} {x : Timer} {b now d : Micros} (hc : c = true) (hx : x = some b) (h : b + d ≤ now) :
    ranFor (runWhile c x now) now d = true := by
  rw [hc, hx]
  exact decide_eq_true h

/-- Settles O25: contact and its loss, each the step of its state. -/
theorem contactIsFoundAndLost : Obligations.ContactIsFoundAndLost := by
  constructor
  · intro m first c s b i ht hl hm hst hcall hcon hb hle
    have hcause : (s.arrive m).brushCause c = .contact := by
      have hrun : ranFor ((s.brush c).tick i).contactTimer i.now (ms i.cfg.tContact) = true :=
        ranFor_runWhile (by rw [hst, hcon]; rfl) hb hle
      show ((s.brush c).tick i).cause i = .contact
      rw [Brush.cause_of_descending hst]
      unfold Brush.descendingCause
      simp only [hcall, hrun, Bool.not_true, Bool.false_eq_true, if_false, if_true]
    obtain ⟨v, t, he, hv, hstep⟩ := exec_brushRow_stepped (i := .contactDetected m first c) ht hl hm (by rw [hst]; nofun) hcause rfl
    obtain ⟨hvb, hvi, hvn⟩ := hv.read
    obtain ⟨p, q, r, hbr⟩ := hstep.kept
    obtain ⟨z, hz⟩ := ((s.brush c).tick i).adjustCeiling_keeps i
    have hx : (v.applyBrush c .contact).brush c = (((s.brush c).tick i).adjustCeiling i).makeContact := by
      show (v.setBrush c (((v.brush c).tick (v.brushIn c)).adjustCeiling (v.brushIn c)).makeContact).brush c = _
      rw [State.setBrush_brush, hvb, hvi]
    rw [hx, hz] at hbr
    have hout := hstep.driven.of_working (by rw [hbr]; rfl)
    refine ⟨t, he, ?_, ?_, ?_, hout.1, hout.2⟩ <;> rw [hbr] <;> rfl
  · intro m first c s b i ht hl hm hst hcall hns hmode hu hp hb hle
    have hcause : (s.arrive m).brushCause c = .lost := by
      have hrun : ranFor ((s.brush c).tick i).lossTimer i.now (ms i.cfg.tLoss) = true := by
        refine ranFor_runWhile ?_ hb hle
        rw [hst, hmode, hu, decide_eq_true hp]
        rfl
      have hfed : ranFor ((s.brush c).tick i).starveTimer i.now (ms 2000) = false := by
        show ranFor (runWhile _ (s.brush c).starveTimer i.now) i.now _ = false
        rw [hns]
        exact ranFor_runWhile_none _ _ (by decide)
      show ((s.brush c).tick i).cause i = .lost
      rw [Brush.cause_of_sweeping hst]
      unfold Brush.sweepingCause
      simp only [hcall, hfed, hrun, Bool.not_true, Bool.false_eq_true, if_false, if_true]
    obtain ⟨v, t, he, hv, hstep⟩ := exec_brushRow_stepped (i := .lossOfContact m first c) ht hl hm (by rw [hst]; nofun) hcause rfl
    obtain ⟨hvb, hvi, hvn⟩ := hv.read
    obtain ⟨p, q, r, hbr⟩ := hstep.kept
    have hx : (v.applyBrush c .lost).brush c = ((s.brush c).tick i).loseContact i := by
      show (v.setBrush c (((v.brush c).tick (v.brushIn c)).loseContact (v.brushIn c))).brush c = _
      rw [State.setBrush_brush, hvb, hvi]
    rw [hx] at hbr
    have hout := hstep.driven.of_working (by rw [hbr]; rfl)
    refine ⟨t, he, ?_, ?_, ?_, ?_, ?_, ?_, hout.1, hout.2⟩ <;> rw [hbr]
    · rfl
    · exact congrArg some hstep.now.symm
    all_goals rfl

/-! ### Channels whose motor stops -/

/-- After stage 3 a channel that does not work has its motor off, and its outputs follow. -/
theorem State.BrushStepped.idle {s x t : State} {c : Chan} (h : s.BrushStepped x t c) (hw : (x.brush c).state.working = false)
    (hd : (x.brush c).state ≠ .disabled) :
    t.brush c = { x.brush c with lastDuty := 0 } ∧ t.out.float c = false ∧ (t.out.coil (valveOf c)).shadow = 0 ∧
      t.out.lift c = (x.brush c).lifting := by
  obtain ⟨hl, hf, hs⟩ := h.driven
  have hb := h.brush.trans (Brush.stage3_of_idle hw hd _ _ _)
  rw [hb] at hl hf hs
  exact ⟨hb, hf.trans hw, hs, hl⟩

/-- What the entry to RAISING at a step leaves of the motor's and the overrun's figures. -/
theorem Brush.enterRaisingAtStep_figures (b : Brush) (i : BrushIn) (starved : Bool) :
    (b.enterRaisingAtStep i starved).starved = starved ∧ (b.enterRaisingAtStep i starved).overrun = false ∧
      (b.enterRaisingAtStep i starved).ceiling = none ∧
      (b.enterRaisingAtStep i starved).state.working = false := by
  refine ⟨?_, ?_, ?_, ?_⟩
  case refine_4 =>
    rw [Brush.enterRaisingAtStep_state]
    split_ifs <;> rfl
  all_goals
    unfold Brush.enterRaisingAtStep
    dsimp only
    split
    · unfold Brush.endSpinDown
      split <;> rfl
    · rfl

/-- Settles O26: starvation is tested before every other condition of SWEEPING but the release. -/
theorem starvedBrushWaitsAndResumes : Obligations.StarvedBrushWaitsAndResumes := by
  constructor
  · intro m first c s b i ht hl hm hst hcall hg hb hle
    have hcause : (s.arrive m).brushCause c = .starved := by
      have hrun : ranFor ((s.brush c).tick i).starveTimer i.now (ms 2000) = true :=
        ranFor_runWhile (by rw [hst, decide_eq_true hg]; rfl) hb hle
      show ((s.brush c).tick i).cause i = .starved
      rw [Brush.cause_of_sweeping hst]
      unfold Brush.sweepingCause
      simp only [hcall, hrun, Bool.not_true, Bool.false_eq_true, if_false, if_true]
    obtain ⟨v, t, he, hv, hstep⟩ := exec_brushRow_stepped (i := .starvation m first c) ht hl hm (by rw [hst]; nofun) hcause rfl
    obtain ⟨hvb, hvi, hvn⟩ := hv.read
    have hx : (v.applyBrush c .starved).brush c = ((s.brush c).tick i).enterRaisingAtStep i true := by
      show (v.setBrushAndRecord c (((v.brush c).tick (v.brushIn c)).enterRaisingAtStep (v.brushIn c) true)).brush c = _
      rw [State.setBrushAndRecord_brush, hvb, hvi]
    obtain ⟨h1, h2, h3, h4⟩ := ((s.brush c).tick i).enterRaisingAtStep_figures i true
    obtain ⟨hbr, hf, hs, -⟩ := hstep.idle (by rw [hx]; exact h4) (by rw [hx]; exact Brush.enterRaisingAtStep_enabled _ _ _)
    refine ⟨t, he, ?_, hf, hs, ?_⟩ <;> rw [hbr, hx]
    · exact h1
    · exact Brush.enterRaisingAtStep_state _ _ _
  · intro m first c s b i ht hl hm hst hhard hcall hw hb hle
    have hcause : (s.arrive m).brushCause c = .resumed := by
      have hrun : ranFor ((s.brush c).tick i).resumeTimer i.now (ms 1000) = true :=
        ranFor_runWhile (by rw [hst, hcall, decide_eq_true hw]; rfl) hb hle
      show ((s.brush c).tick i).cause i = .resumed
      rw [Brush.cause_of_waiting hst]
      simp only [hhard, hcall, hrun, Bool.not_true, Bool.false_eq_true, if_false, if_true]
    obtain ⟨v, t, he, hv, hstep⟩ := exec_brushRow_stepped (i := .resume m first c) ht hl hm (by rw [hst]; nofun) hcause rfl
    obtain ⟨hvb, hvi, hvn⟩ := hv.read
    obtain ⟨p, q, r, hbr⟩ := hstep.kept
    have hx : (v.applyBrush c .resumed).brush c = ((s.brush c).tick i).enterDescending i := by
      show (v.setBrush c (((v.brush c).tick (v.brushIn c)).enterDescending (v.brushIn c))).brush c = _
      rw [State.setBrush_brush, hvb, hvi]
    rw [hx] at hbr
    have hout := hstep.driven.of_working (by rw [hbr]; rfl)
    refine ⟨t, he, ?_, ?_, ?_, hout.1, hout.2⟩ <;> rw [hbr]
    · rfl
    · rfl
    · exact congrArg some hstep.now.symm

/-- Settles O27: the spin-down's end, and the recovery delay's outside and during a SUPPLY condition. -/
theorem spinDownAndRecoveryDelayEnd : Obligations.SpinDownAndRecoveryDelayEnd := by
  constructor
  · intro m first c s b i ht hl hm hst hhard hr hb hle
    have hcause : (s.arrive m).brushCause c = .spinDownEnd := by
      have hrun : ranFor ((s.brush c).tick i).spinTimer i.now (ms i.cfg.spinDown) = true := ranFor_of_le hb hle
      have hr' : ((s.brush c).tick i).raiseTimer.isSome = false := by
        show (s.brush c).raiseTimer.isSome = false
        rw [hr]
        rfl
      show ((s.brush c).tick i).cause i = .spinDownEnd
      rw [Brush.cause_of_raising hst]
      unfold Brush.raisingCause
      simp only [hhard, hr', hrun, Bool.false_eq_true, if_false, if_true]
    obtain ⟨v, t, he, hv, hstep⟩ := exec_brushRow_stepped (i := .spinDownEnd m first c) ht hl hm (by rw [hst]; nofun) hcause rfl
    obtain ⟨hvb, hvi, hvn⟩ := hv.read
    have hx : (v.applyBrush c .spinDownEnd).brush c = ((s.brush c).tick i).endSpinDown i := by
      show (v.setBrushAndRecord c (((v.brush c).tick (v.brushIn c)).endSpinDown (v.brushIn c))).brush c = _
      rw [State.setBrushAndRecord_brush, hvb, hvi]
    have hstate := ((s.brush c).tick i).endSpinDown_state i
    have hraising : ((s.brush c).tick i).state = .raising := hst
    rw [hraising] at hstate
    obtain ⟨hbr, hf, -, hlift⟩ := hstep.idle (by rw [hx, hstate]; split_ifs <;> rfl) (by rw [hx, hstate]; split_ifs <;> decide)
    rw [hx] at hbr hlift
    refine ⟨t, he, hf, fun hup => ?_, fun hup => ?_⟩
    · rw [if_pos hup] at hstate
      rw [hlift, hbr]
      refine ⟨Brush.lifting_of_state ?_, hstate⟩
      rw [hstate]
      split <;> decide
    · have hend : ((s.brush c).tick i).endSpinDown i =
          { (s.brush c).tick i with spinTimer := none, raiseTimer := some i.now } := by
        unfold Brush.endSpinDown
        rw [hup]
        rfl
      rw [hlift, hbr, hend]
      refine ⟨?_, hst, congrArg some hstep.now.symm⟩
      rw [Brush.lifting, hraising]
      rfl
  · intro m first c s b ht hl hm hst hb hle hrec
    have hcause : (s.arrive m).brushCause c = .recoveryEnd := by
      have hrun : ranFor ((s.brush c).tick ((s.arrive m).brushIn c)).recoveryTimer ((s.arrive m).brushIn c).now (ms 2000) = true :=
        ranFor_of_le hb hle
      show ((s.brush c).tick ((s.arrive m).brushIn c)).cause ((s.arrive m).brushIn c) = .recoveryEnd
      rw [Brush.cause_of_fault hst, if_pos hrun]
    obtain ⟨v, t, he, hv, hstep⟩ :=
      exec_brushRow_stepped (i := .brushRecoveryDelayEnd m first c) ht hl hm (by rw [hst]; nofun) hcause rfl
    obtain ⟨hvb, hvi, hvn⟩ := hv.read
    have hvs : v.supplyLow = s.supplyLow := hv.supply
    have hvrec : v.ctl.recordState (sourceOf (countedOf c)) = some .active := by
      rw [Controller.recordState, hv.record]
      exact hrec
    have hmade := Controller.recordState_makeRecovering hvrec
    have hrecord : t.ctl.recordState (sourceOf (countedOf c)) =
        (v.applyBrush c .recoveryEnd).ctl.recordState (sourceOf (countedOf c)) := by
      rw [Controller.recordState, hstep.record]
      rfl
    cases hsup : v.supplyLow
    · have hx : v.applyBrush c .recoveryEnd = (v.setCtl (v.ctl.makeRecovering (sourceOf (countedOf c)))).setBrushAndRecord c
          (((v.brush c).tick (v.brushIn c)).enterRaisingAtStep (v.brushIn c) false) := by
        unfold State.applyBrush
        dsimp only
        rw [hsup]
        rfl
      have hxb : (v.applyBrush c .recoveryEnd).brush c =
          ((v.brush c).tick (v.brushIn c)).enterRaisingAtStep (v.brushIn c) false := by
        rw [hx, State.setBrushAndRecord_brush]
      obtain ⟨-, -, -, h4⟩ := ((v.brush c).tick (v.brushIn c)).enterRaisingAtStep_figures (v.brushIn c) false
      obtain ⟨hbr, hf, -, -⟩ := hstep.idle (by rw [hxb]; exact h4) (by rw [hxb]; exact Brush.enterRaisingAtStep_enabled _ _ _)
      refine ⟨t, he, hf, fun h => ?_, fun _ hspin => ?_⟩
      · rw [← hvs, hsup] at h
        exact Bool.noConfusion h
      · have hne : ¬(v.brushIn c).cfg.spinDown = 0 := by
          rw [hvi]
          exact hspin
        have hent : ((v.brush c).tick (v.brushIn c)).enterRaisingAtStep (v.brushIn c) false =
            ((v.brush c).tick (v.brushIn c)).enterRaising (v.brushIn c).now false := if_neg hne
        rw [hrecord, hbr, hxb, hx, hent]
        refine ⟨rfl, ?_, ?_⟩
        · show some (v.brushIn c).now = _
          rw [hvi, hstep.now]
          rfl
        · have hset (b' : Brush) (hb' : b'.state ≠ .stowed) (w : State) : (w.setBrushAndRecord c b').ctl = w.ctl := by
            unfold State.setBrushAndRecord
            dsimp only
            rw [if_neg hb', State.setBrush_ctl]
          rw [hset _ (by nofun), State.setCtl_ctl]
          exact hmade
    · have hx : v.applyBrush c .recoveryEnd = (v.setCtl (v.ctl.makeRecovering (sourceOf (countedOf c)))).setBrush c
          { ((v.brush c).tick (v.brushIn c)).motorOff with state := .held, starved := false } := by
        unfold State.applyBrush
        dsimp only
        rw [hsup]
        rfl
      have hxb : (v.applyBrush c .recoveryEnd).brush c =
          { ((v.brush c).tick (v.brushIn c)).motorOff with state := .held, starved := false } := by
        rw [hx, State.setBrush_brush]
      obtain ⟨hbr, hf, -, -⟩ := hstep.idle (by rw [hxb]; rfl) (by rw [hxb]; nofun)
      refine ⟨t, he, hf, fun _ => ?_, fun h => ?_⟩
      · rw [hrecord, hbr, hxb, hx, State.setBrush_ctl, State.setCtl_ctl]
        exact ⟨rfl, hmade⟩
      · rw [← hvs, hsup] at h
        exact Bool.noConfusion h

/-! ### Overrun and the timed faults -/

/-- Timings that did not run before the step are not met at it. -/
theorem Brush.tick_not_tripped {b : Brush} {i : BrushIn} (ht : b.tripTimer = none) (h : 0 < i.cfg.tTrip) :
    ranFor (b.tick i).tripTimer i.now (ms i.cfg.tTrip) = false := by
  show ranFor (runWhile _ b.tripTimer i.now) i.now _ = false
  rw [ht]
  exact ranFor_runWhile_none _ _ (ms_pos h)

theorem Brush.tick_not_stalled {b : Brush} {i : BrushIn} (ht : b.stallTimer = none) (h : 0 < i.cfg.tHoldMax) :
    ranFor (b.tick i).stallTimer i.now (ms i.cfg.tHoldMax) = false := by
  show ranFor (runWhile _ b.stallTimer i.now) i.now _ = false
  rw [ht]
  exact ranFor_runWhile_none _ _ (ms_pos h)

/-- Settles O28: the overrun rules come last in SWEEPING, the clearing before the standing. -/
theorem overrunStandsAndClears : Obligations.OverrunStandsAndClears := by
  constructor
  · intro m first c s b i ht hl hm hst hcall hns hnl hnt hnst hloss htrip hhold hhard hu hpul hov hnstand hsp hb hle
    have hcause : (s.arrive m).brushCause c = .overrunOnset := by
      have hrun : ranFor ((s.brush c).tick i).onsetTimer i.now (ms 300) = true := by
        refine ranFor_runWhile ?_ hb hle
        have hpick : i.pickup = true := bne_iff_ne.2 hpul
        have hlevel : decide (i.overrunLevel < i.speed) = true := decide_eq_true hsp
        rw [hst, hov, hpick, hlevel]
        rfl
      have hclear : ((s.brush c).tick i).clearTimer = none := by
        show runWhile _ _ _ = none
        rw [hov, Bool.and_false, Bool.false_and]
        rfl
      have hstand : ((s.brush c).tick i).standingTimer = none := hnstand
      show ((s.brush c).tick i).cause i = .overrunOnset
      rw [Brush.cause_of_sweeping hst, Brush.sweepingCause_of_fed hcall hns hnl hloss,
        Brush.pressureCause_of_clear hhard hu (Brush.tick_not_tripped hnt htrip) (Brush.tick_not_stalled hnst hhold)]
      unfold Brush.overrunCause
      simp only [hclear, hstand, hrun, ranFor_none, Bool.false_eq_true, if_false, if_true]
    obtain ⟨v, t, he, hv, hstep⟩ := exec_brushRow_stepped (i := .overrunOnset m first c) ht hl hm (by rw [hst]; nofun) hcause rfl
    obtain ⟨hvb, hvi, hvn⟩ := hv.read
    obtain ⟨p, q, r, hbr⟩ := hstep.kept
    obtain ⟨z, hz⟩ := ((s.brush c).tick i).adjustCeiling_keeps i
    have hx : (v.applyBrush c .overrunOnset).brush c =
        (((s.brush c).tick i).adjustCeiling i).startOverrun v.now v.overrunCapNow := by
      show (v.setBrush c ((((v.brush c).tick (v.brushIn c)).adjustCeiling (v.brushIn c)).startOverrun v.now
        v.overrunCapNow)).brush c = _
      rw [State.setBrush_brush, hvb, hvi]
    rw [hx, hz] at hbr
    have hover : (t.brush c).overrun = true := by rw [hbr]; rfl
    have hcap : (t.brush c).overrunCap = (s.arrive m).overrunCapNow := by rw [hbr, ← hv.cap]; rfl
    refine ⟨t, he, ?_, hover, ?_, ?_, ?_⟩
    · rw [hbr]
      exact hst
    · rw [hbr, hstep.now, ← hv.now]
      rfl
    · rw [hcap, State.overrunCapNow]
      cases (s.arrive m).paceView.magnitude <;> rfl
    · refine hstep.cap _ ?_
      rw [hstep.overrun, if_pos hover]
  · intro m first c s b i ht hl hm hst hcall hns hnl hnt hnst hloss htrip hhold hhard hu hov hsp hb hle
    have hcause : (s.arrive m).brushCause c = .overrunClear := by
      have hrun : ranFor ((s.brush c).tick i).clearTimer i.now (ms 1000) = true :=
        ranFor_runWhile (by rw [hst, hov, decide_eq_true hsp]; rfl) hb hle
      show ((s.brush c).tick i).cause i = .overrunClear
      rw [Brush.cause_of_sweeping hst, Brush.sweepingCause_of_fed hcall hns hnl hloss,
        Brush.pressureCause_of_clear hhard hu (Brush.tick_not_tripped hnt htrip) (Brush.tick_not_stalled hnst hhold)]
      unfold Brush.overrunCause
      rw [if_pos hrun]
    obtain ⟨v, t, he, hv, hstep⟩ := exec_brushRow_stepped (i := .overrunClear m first c) ht hl hm (by rw [hst]; nofun) hcause rfl
    obtain ⟨hvb, hvi, hvn⟩ := hv.read
    obtain ⟨p, q, r, hbr⟩ := hstep.kept
    obtain ⟨z, hz⟩ := ((s.brush c).tick i).adjustCeiling_keeps i
    have hx : (v.applyBrush c .overrunClear).brush c = (((s.brush c).tick i).adjustCeiling i).endOverrun := by
      show (v.setBrush c (((v.brush c).tick (v.brushIn c)).adjustCeiling (v.brushIn c)).endOverrun).brush c = _
      rw [State.setBrush_brush, hvb, hvi]
    rw [hx, hz] at hbr
    have hover : (t.brush c).overrun = false := by rw [hbr]; rfl
    have hnone : t.ctl.contrib.overrunOf c = none := by
      rw [hstep.overrun, hover]
      rfl
    refine ⟨t, he, ?_, hover, ?_, ?_⟩
    · rw [hbr]
      exact hst
    · rw [hbr]
      rfl
    · cases c <;> exact hnone

/-- A row whose condition posts a fault of the common rule. -/
theorem exec_brushFault {i : Instr} {s : State} {m : Moment} {first c : Chan} {x : BrushCause} {code : FaultCode}
    (ht : s.takeable = false) (hl : s.loader.state = .done) (hm : s.ctl.mode ≠ .standby) (hp : s.brushCanPost c)
    (hc : (s.brush c).state ≠ .disabled) (hx : (s.arrive m).brushCause c = x)
    (happly : ∀ v : State, v.applyBrush c x = v.brushFault c code)
    (he : exec i s = .next (s.event m (fun a => a.brushMeets first c (· == x)) (State.brushStep first))) :
    ∃ t, exec i s = .next t ∧ BrushFaulted s t c code := by
  obtain ⟨v, t, he, hv, hstep⟩ := exec_brushRow_stepped ht hl hm hc hx he
  have hpost : v.brushCanPost c := by
    unfold State.brushCanPost Controller.recordState
    rw [hv.record]
    exact hp
  have hf := State.brushFault_faulted hpost code
  have hxb : (v.brushFault c code).brush c =
      (v.brush c).enterFault v.now code (v.ctl.post v.now (countedOf c) code).2 := by
    rw [State.brushFault_eq, State.setBrush_brush]
  obtain ⟨h1, h2, h3⟩ := (v.brush c).enterFault_state v.now code (v.ctl.post v.now (countedOf c) code).2
  rw [← hxb, ← happly v] at h1 h2 h3
  rw [← happly v] at hf
  have hb : t.brush c = (v.applyBrush c x).brush c := hstep.brush.trans (Brush.stage3_of_off h2 h3 _ _ _)
  obtain ⟨k1, k2, k3⟩ := hstep.driven
  rw [hb] at k1 k2 k3
  refine ⟨t, he, (hf.congr ⟨k1.trans h1, k2.trans h2, k3.trans h3⟩ hb hstep.count hstep.record ?_).of_count ?_⟩
  · rw [hstep.now, (State.applyBrush_keeps v c x).1, hv.now]
  · exact congrArg Recovery.count hv.count.symm

/-- Settles O29: each fault is the first condition met in its state's order. -/
theorem timedBrushFaultsArePosted : Obligations.TimedBrushFaultsArePosted := by
  intro m first c s b i x ht hl hm hp
  refine ⟨fun hst hcall hcon hb hle => ?_, fun hst hhard hup hb hle => ?_, fun hst hcall hns hnl hloss hhard hov hmode hb hle => ?_,
    fun hst hcall hns hnl hloss hhard hov hmode hb hle => ?_, fun hst hcall hns hnl hloss hu hpr hov hsp hb hle => ?_⟩
  · refine exec_brushFault (i := .descendTimeout m first c) ht hl hm hp (by rw [hst]; nofun) ?_ (fun _ => rfl) rfl
    have hrun : ranFor (x.tick i).descendTimer i.now (ms i.cfg.descendTimeout) = true := ranFor_of_le hb hle
    have hno : (x.tick i).contactTimer = none := by
      show runWhile _ _ _ = none
      rw [hcon, Bool.and_false]
      rfl
    show (x.tick i).cause i = .descendTimeout
    rw [Brush.cause_of_descending hst]
    unfold Brush.descendingCause
    simp only [hcall, hno, hrun, ranFor_none, Bool.not_true, Bool.false_eq_true, if_false, if_true]
  · refine exec_brushFault (i := .raiseTimeout m first c) ht hl hm hp (by rw [hst]; nofun) ?_ (fun _ => rfl) rfl
    have hrun : ranFor (x.tick i).raiseTimer i.now (ms i.cfg.raiseTimeout) = true := ranFor_of_le hb hle
    have hsome : (x.tick i).raiseTimer.isSome = true := by
      show x.raiseTimer.isSome = true
      rw [hb]
      rfl
    show (x.tick i).cause i = .raiseTimeout
    rw [Brush.cause_of_raising hst]
    unfold Brush.raisingCause
    simp only [hhard, hsome, hup, hrun, Bool.false_eq_true, if_false, if_true]
  · refine exec_brushFault (i := .trip m first c) ht hl hm hp (by rw [hst]; nofun) ?_ (fun _ => rfl) rfl
    have hu : i.usable = true := (Bool.and_eq_true_iff.1 hov).1
    have hrun : ranFor (x.tick i).tripTimer i.now (ms i.cfg.tTrip) = true :=
      ranFor_runWhile (by rw [hst, hmode, hov]; rfl) hb hle
    show (x.tick i).cause i = .trip
    rw [Brush.cause_of_sweeping hst, Brush.sweepingCause_of_fed hcall hns hnl hloss]
    unfold Brush.pressureCause
    simp only [hhard, hu, hrun, Bool.not_true, Bool.false_eq_true, if_false, if_true]
  · refine exec_brushFault (i := .stall m first c) ht hl hm hp (by rw [hst]; nofun) ?_ (fun _ => rfl) rfl
    have hu : i.usable = true := (Bool.and_eq_true_iff.1 hov).1
    have hno : (x.tick i).tripTimer = none := by
      show runWhile _ _ _ = none
      rw [hst, hmode]
      rfl
    have hrun : ranFor (x.tick i).stallTimer i.now (ms i.cfg.tHoldMax) = true :=
      ranFor_runWhile (by rw [hst, hmode, hov]; rfl) hb hle
    show (x.tick i).cause i = .stall
    rw [Brush.cause_of_sweeping hst, Brush.sweepingCause_of_fed hcall hns hnl hloss]
    unfold Brush.pressureCause
    simp only [hhard, hu, hno, hrun, ranFor_none, Bool.not_true, Bool.false_eq_true, if_false, if_true]
  · refine exec_brushFault (i := .overrunStanding m first c) ht hl hm hp (by rw [hst]; nofun) ?_ (fun _ => rfl) rfl
    have hhard : i.overHard = false := by
      have : ¬i.cfg.pLim * 5 / 4 < i.pressure := by omega
      rw [BrushIn.overHard, decide_eq_false this, Bool.and_false]
    have hlim : i.overLimit = false := by
      rw [BrushIn.overLimit, decide_eq_false (Nat.not_lt.2 hpr), Bool.and_false]
    have hnt : (x.tick i).tripTimer = none := by
      show runWhile _ _ _ = none
      rw [hlim, Bool.and_false]
      rfl
    have hnst : (x.tick i).stallTimer = none := by
      show runWhile _ _ _ = none
      rw [hlim, Bool.and_false]
      rfl
    have hclear : (x.tick i).clearTimer = none := by
      show runWhile _ _ _ = none
      rw [decide_eq_false (Nat.not_le.2 hsp), Bool.and_false]
      rfl
    have hrun : ranFor (x.tick i).standingTimer i.now (ms 3000) = true := ranFor_of_le hb hle
    show (x.tick i).cause i = .overrunStanding
    rw [Brush.cause_of_sweeping hst, Brush.sweepingCause_of_fed hcall hns hnl hloss,
      Brush.pressureCause_of_clear hhard hu (by rw [hnt, ranFor_none]) (by rw [hnst, ranFor_none])]
    unfold Brush.overrunCause
    simp only [hclear, hrun, ranFor_none, Bool.false_eq_true, if_false, if_true]

end Sys2Proof.Machine

/-! The brush step itself (02, sections 2.1 to 2.10): O24. -/

namespace Sys2Proof.Machine

/-! ### Which states a condition comes from -/

theorem Brush.pressureCause_cases (b : Brush) (i : BrushIn) (x : BrushCause) :
    b.pressureCause i x = .hardLimit ∨ b.pressureCause i x = .sensor ∨ b.pressureCause i x = .trip ∨
      b.pressureCause i x = .stall ∨ b.pressureCause i x = x := by
  unfold Brush.pressureCause
  split_ifs <;> simp

/-- A working channel meets no condition of STOWED, WAITING or RAISING. -/
theorem Brush.cause_of_working {b : Brush} (h : b.state.working = true) (i : BrushIn) :
    b.cause i ≠ .called ∧ b.cause i ≠ .resumed ∧ b.cause i ≠ .spinDownEnd := by
  unfold Brush.cause
  cases hs : b.state <;> rw [hs] at h <;> first | exact Bool.noConfusion h | skip
  case descending =>
    dsimp only
    unfold Brush.descendingCause
    rcases b.pressureCause_cases i .none with hp | hp | hp | hp | hp <;> rw [hp] <;> split_ifs <;> simp
  case sweeping =>
    dsimp only
    unfold Brush.sweepingCause
    rcases b.pressureCause_cases i (b.overrunCause i) with hp | hp | hp | hp | hp <;> rw [hp]
    case inr.inr.inr.inr => unfold Brush.overrunCause; split_ifs <;> simp
    all_goals split_ifs <;> simp

/-- A channel that does not work meets no condition of DESCENDING or SWEEPING that leaves it working. -/
theorem Brush.cause_of_not_working {b : Brush} (h : b.state.working = false) (i : BrushIn) :
    b.cause i ≠ .contact ∧ b.cause i ≠ .lost ∧ b.cause i ≠ .overrunOnset ∧ b.cause i ≠ .overrunClear := by
  unfold Brush.cause
  cases hs : b.state <;> rw [hs] at h <;> first | exact Bool.noConfusion h | skip
  case raising =>
    dsimp only
    unfold Brush.raisingCause
    split_ifs <;> simp
  case stowed | waiting | fault =>
    dsimp only
    split_ifs <;> simp
  case disabled | held | latched => simp

theorem Brush.state_of_lost {b : Brush} {i : BrushIn} (h : b.cause i = .lost) : b.state = .sweeping := by
  have hw : b.state.working = true := by
    by_contra hn
    exact (Brush.cause_of_not_working (Bool.eq_false_iff.2 hn) i).2.1 h
  have hd : b.state ≠ .descending := by
    intro hs
    unfold Brush.cause at h
    simp only [hs] at h
    unfold Brush.descendingCause at h
    rcases b.pressureCause_cases i .none with hp | hp | hp | hp | hp <;> rw [hp] at h <;> split_ifs at h
  cases hs : b.state <;> rw [hs] at hw hd
  case descending => exact absurd rfl hd
  all_goals exact Bool.noConfusion hw

/-- What stage 1 leaves of a channel that works after it: fresh motor figures if it did not work before, its own if it did, and
the ceiling adjusted but at a loss of contact. -/
theorem State.applyBrush_working {v : State} {c : Chan} {x : BrushCause} (hx : v.brushCause c = x)
    (hw : ((v.applyBrush c x).brush c).state.working = true) :
    ((v.brush c).state.working = false ∧ ((v.applyBrush c x).brush c).trim = 0 ∧
        ((v.applyBrush c x).brush c).prevDuty = 0) ∨
      ((v.brush c).state.working = true ∧ ((v.applyBrush c x).brush c).trim = (v.brush c).trim ∧
        ((v.applyBrush c x).brush c).prevDuty = (v.brush c).prevDuty ∧
        (((v.brush c).state = .sweeping ∧ ((v.applyBrush c x).brush c).state = .descending) ∨
          ((v.applyBrush c x).brush c).ceiling =
            (((v.brush c).tick (v.brushIn c)).adjustCeiling (v.brushIn c)).ceiling)) := by
  have hstops {b : Brush} (he : (v.applyBrush c x).brush c = b) (hb : b.state.working = false) : False := by
    rw [he, hb] at hw
    exact Bool.noConfusion hw
  have horigin (h : (v.brush c).state.working = true) : x ≠ .called ∧ x ≠ .resumed ∧ x ≠ .spinDownEnd :=
    hx ▸ Brush.cause_of_working (b := (v.brush c).tick (v.brushIn c)) h (v.brushIn c)
  have horigin' (h : (v.brush c).state.working = false) : x ≠ .contact ∧ x ≠ .lost ∧ x ≠ .overrunOnset ∧ x ≠ .overrunClear :=
    hx ▸ Brush.cause_of_not_working (b := (v.brush c).tick (v.brushIn c)) h (v.brushIn c)
  have hsweeps (h : x = .lost) : (v.brush c).state = .sweeping :=
    Brush.state_of_lost (b := (v.brush c).tick (v.brushIn c)) (hx.trans h)
  obtain ⟨z, hz⟩ := ((v.brush c).tick (v.brushIn c)).adjustCeiling_keeps (v.brushIn c)
  have hfault {code : FaultCode} (he : v.applyBrush c x = v.brushFault c code) : False := by
    refine hstops (by rw [he, State.brushFault_eq, State.setBrush_brush]) ?_
    exact (Brush.enterFault_state _ _ _ _).2.1
  clear hx
  cases x
  case none =>
    have hb : (v.applyBrush c .none).brush c =
        if (v.brush c).state.working = true then ((v.brush c).tick (v.brushIn c)).adjustCeiling (v.brushIn c)
        else (v.brush c).tick (v.brushIn c) := State.setBrush_brush _ _ _
    cases hwas : (v.brush c).state.working
    · rw [hwas] at hb
      exact (hstops hb hwas).elim
    · rw [hwas, if_pos rfl] at hb
      rw [hb]
      refine Or.inr ⟨rfl, ?_, ?_, Or.inr rfl⟩ <;> rw [hz] <;> rfl
  case called | resumed =>
    cases hwas : (v.brush c).state.working
    · have hb : ∀ b, (v.setBrush c b).brush c = b := State.setBrush_brush v c
      exact Or.inl ⟨rfl, (congrArg Brush.trim (hb _)).trans rfl, (congrArg Brush.prevDuty (hb _)).trans rfl⟩
    · obtain ⟨h1, h2, -⟩ := horigin hwas
      contradiction
  case contact | overrunOnset | overrunClear =>
    cases hwas : (v.brush c).state.working
    · obtain ⟨h1, -, h3, h4⟩ := horigin' hwas
      contradiction
    · have hb : ∀ b, (v.setBrush c b).brush c = b := State.setBrush_brush v c
      refine Or.inr ⟨rfl, (congrArg Brush.trim (hb _)).trans ?_, (congrArg Brush.prevDuty (hb _)).trans ?_,
        Or.inr ((congrArg Brush.ceiling (hb _)).trans rfl)⟩ <;> rw [hz] <;> rfl
  case lost =>
    have hb : ∀ b, (v.setBrush c b).brush c = b := State.setBrush_brush v c
    have hst := hsweeps rfl
    exact Or.inr ⟨by rw [hst]; rfl, (congrArg Brush.trim (hb _)).trans rfl, (congrArg Brush.prevDuty (hb _)).trans rfl,
      Or.inl ⟨hst, (congrArg Brush.state (hb _)).trans rfl⟩⟩
  case released | starved =>
    exact (hstops (State.setBrushAndRecord_brush _ _ _) (Brush.enterRaisingAtStep_figures _ _ _).2.2.2).elim
  case waitingReleased => exact (hstops (State.setBrushAndRecord_brush _ _ _) rfl).elim
  case armUp =>
    refine (hstops (State.setBrushAndRecord_brush _ _ _) ?_).elim
    show (if _ then BrushState.waiting else BrushState.stowed).working = false
    split <;> rfl
  case spinDownEnd =>
    cases hwas : (v.brush c).state.working
    · refine (hstops (State.setBrushAndRecord_brush _ _ _) ?_).elim
      rw [Brush.endSpinDown_state]
      split_ifs
      · rfl
      · rfl
      · exact hwas
    · exact absurd rfl (horigin hwas).2.2
  case recoveryEnd =>
    unfold State.applyBrush at hstops
    dsimp only at hstops
    split at hstops
    · exact (hstops (State.setBrush_brush _ _ _) rfl).elim
    · exact (hstops (State.setBrushAndRecord_brush _ _ _) (Brush.enterRaisingAtStep_figures _ _ _).2.2.2).elim
  all_goals exact (hfault rfl).elim

/-! ### The motor duty and the HOLD ceiling -/

/-- The motor duty at a grant of 0. -/
theorem Brush.motorStep_zero (b : Brush) (i : BrushCfg) (n : Nat) : b.motorStep i 0 n = { b with lastDuty := 0 } := rfl

/-- The trim, the unclamped duty and the duty of a channel that is granted a speed. -/
theorem Brush.motorStep_pos (b : Brush) (i : BrushCfg) {g : Nat} (n : Nat) (hg : 0 < g) :
    (b.motorStep i g n).trim =
        (if i.pulses = 0 then 0
         else if (((min 1000 (b.ceiling.getD 1000) : Nat) : Int) ≤ b.prevDuty ∧ 0 < (g : Int) - n) ∨
            (b.prevDuty ≤ 0 ∧ (g : Int) - n < 0) then b.trim
         else max (-10000) (min 10000 (b.trim + 5 * ((g : Int) - n)))) ∧
      (b.motorStep i g n).prevDuty =
        ((i.valveOffset + g * i.valveGain / 100 : Nat) : Int) + (b.motorStep i g n).trim.tdiv 100 ∧
      (b.motorStep i g n).lastDuty = min (max 0 (min 1000 (b.motorStep i g n).prevDuty)).toNat (b.ceiling.getD 1000) := by
  unfold Brush.motorStep
  rw [if_neg (Nat.ne_of_gt hg)]
  refine ⟨rfl, rfl, ?_⟩
  dsimp only
  cases b.ceiling with
  | some v => rfl
  | none =>
    dsimp only [Option.getD_none, clampInt]
    omega

theorem Brush.adjustCeiling_ceiling (b : Brush) (i : BrushIn) :
    (b.adjustCeiling i).ceiling =
      if i.cfg.limitMode = 1 ∧ i.usable = true ∧ i.cfg.pLim < i.pressure then some (b.ceiling.getD b.lastDuty - 10)
      else if i.cfg.limitMode = 1 ∧ i.usable = true ∧ i.pressure + 100 < i.cfg.pLim then
        b.ceiling.bind fun c => if 1000 ≤ c + 10 then none else some (c + 10)
      else b.ceiling := by
  unfold Brush.adjustCeiling
  by_cases hm : i.cfg.limitMode = 1 ∧ i.usable = true
  · obtain ⟨h1, h2⟩ := hm
    rw [if_pos ⟨h1, h2⟩]
    by_cases hp : i.cfg.pLim < i.pressure
    · rw [if_pos hp, if_pos ⟨h1, h2, hp⟩]
    · by_cases hq : i.pressure + 100 < i.cfg.pLim
      · rw [if_neg hp, if_pos (by omega), if_neg fun h => hp h.2.2, if_pos ⟨h1, h2, hq⟩]
      · rw [if_neg hp, if_neg (by omega), if_neg fun h => hp h.2.2, if_neg fun h => hq h.2.2]
  · rw [if_neg hm, if_neg fun h => hm ⟨h.1, h.2.1⟩, if_neg fun h => hm ⟨h.1, h.2.1⟩]

/-- The entry to RAISING at a step, by the spin-down and the arm. -/
theorem Brush.enterRaisingAtStep_spins (b : Brush) {i : BrushIn} (starved : Bool) (h : 0 < i.cfg.spinDown) :
    b.enterRaisingAtStep i starved = b.enterRaising i.now starved := if_neg (Nat.ne_of_gt h)

theorem Brush.enterRaisingAtStep_lifts (b : Brush) {i : BrushIn} (starved : Bool) (h : i.cfg.spinDown = 0)
    (hu : i.armUp = false) :
    b.enterRaisingAtStep i starved =
      { b.enterRaising i.now starved with spinTimer := none, raiseTimer := some i.now } := by
  unfold Brush.enterRaisingAtStep Brush.endSpinDown
  dsimp only
  rw [if_pos h, if_neg (by rw [hu]; nofun)]

theorem Brush.enterRaisingAtStep_arrives (b : Brush) {i : BrushIn} (h : i.cfg.spinDown = 0) (hu : i.armUp = true) :
    b.enterRaisingAtStep i false = (b.enterRaising i.now false).arrived := by
  unfold Brush.enterRaisingAtStep Brush.endSpinDown
  dsimp only
  rw [if_pos h, if_pos hu]

/-- Settles O24: the entry and the release by their conditions, the motor by stage 3, the caps as stage 1 posts them. -/
theorem brushStepFollowsTheCall : Obligations.BrushStepFollowsTheCall := by
  intro m first c s i ht hl hm
  have hruns : (s.arrive m).brushStepRuns = true := State.brushStepRuns_of hl hm
  refine ⟨_, exec_of_due ht hruns rfl, ?_⟩
  have hv := (s.arrive m).sameForBrush_turn first c
  have hstepped (hc : (s.brush c).state ≠ .disabled) := (s.arrive m).brushStep_stepped first (c := c) hc s.link.state
  generalize ((s.arrive m).brushStep first).finish s.link.state = t at *
  generalize (s.arrive m).brushTurn first c = v at *
  obtain ⟨hvb, hvi, hvn⟩ := hv.read
  have hcause : (s.arrive m).brushCause c = ((s.brush c).tick i).cause i := rfl
  refine ⟨fun hst hcall hhard => ?_, fun hst hcall => ?_, fun hc => ?_⟩
  · have hstep := hstepped (by rw [hst]; nofun)
    have hx : (v.applyBrush c .called).brush c = ((s.brush c).tick i).enterDescending i := by
      show (v.setBrush c (((v.brush c).tick (v.brushIn c)).enterDescending (v.brushIn c))).brush c = _
      rw [State.setBrush_brush, hvb, hvi]
    rw [hcause, Brush.cause_of_stowed hst, if_neg (by rw [hhard]; nofun), if_pos hcall] at hstep
    obtain ⟨p, q, r, hbr⟩ := hstep.kept
    rw [hx] at hbr
    have hout := hstep.driven.of_working (by rw [hbr]; rfl)
    refine ⟨?_, ?_, ?_, hout.1, hout.2⟩ <;> rw [hbr]
    · rfl
    · exact congrArg some hstep.now.symm
    · rfl
  · have hstep := hstepped (by rcases hst with h | h <;> rw [h] <;> nofun)
    rw [hcause, Brush.cause_of_released hst hcall] at hstep
    have hx : (v.applyBrush c .released).brush c = ((s.brush c).tick i).enterRaisingAtStep i false := by
      show (v.setBrushAndRecord c (((v.brush c).tick (v.brushIn c)).enterRaisingAtStep (v.brushIn c) false)).brush c = _
      rw [State.setBrushAndRecord_brush, hvb, hvi]
    obtain ⟨h1, h2, h3, h4⟩ := ((s.brush c).tick i).enterRaisingAtStep_figures i false
    obtain ⟨hbr, hf, hs, hlift⟩ := hstep.idle (by rw [hx]; exact h4) (by rw [hx]; exact Brush.enterRaisingAtStep_enabled _ _ _)
    have hnow : t.now = i.now := hstep.now
    rw [hx] at hbr hlift
    rw [hbr, hlift, hnow]
    refine ⟨hs, hf, h2, h1, h3, fun hspin => ?_, fun hspin hup => ?_, fun hspin hup => ?_⟩
    · rw [Brush.enterRaisingAtStep_spins _ _ hspin]
      exact ⟨rfl, rfl, rfl⟩
    · rw [Brush.enterRaisingAtStep_lifts _ _ hspin hup]
      exact ⟨rfl, rfl, rfl⟩
    · rw [Brush.enterRaisingAtStep_arrives _ hspin hup]
      exact ⟨rfl, rfl⟩
  · have hstep := hstepped hc
    obtain ⟨p, q, r, hkept⟩ := hstep.kept
    have hwork := State.applyBrush_working (v := v) (c := c) hv.cause
    have hxd : ((v.applyBrush c ((s.arrive m).brushCause c)).brush c).state ≠ .disabled :=
      State.applyBrush_enabled (by rw [hvb]; exact hc) _
    rw [hvb, hvi] at hwork
    generalize (v.applyBrush c ((s.arrive m).brushCause c)) = x at *
    have hstate : (t.brush c).state = (x.brush c).state := by rw [hkept]
    have hceil : (t.brush c).ceiling = (x.brush c).ceiling := by rw [hkept]
    rw [hstate, hceil]
    refine ⟨hstep.driven.2.2, fun hw => ?_, fun hw => ?_, fun hwas hw hsw => ?_, hstep.overrun, hstep.transport, hstep.afterFault⟩
    · rw [(hstep.idle hw hxd).1]
    · intro granted trim prev e upper
      have hb : t.brush c = (x.brush c).motorStep (s.cfg.brush c) granted i.speed :=
        hstep.brush.trans (Brush.stage3_of_working hw _ _ _)
      have hbefore : (x.brush c).trim = trim ∧ (x.brush c).prevDuty = prev := by
        rcases hwork hw with ⟨h0, htr, hpr⟩ | ⟨h0, htr, hpr, -⟩
        · exact ⟨htr.trans (if_neg (by rw [h0]; nofun)).symm, hpr.trans (if_neg (by rw [h0]; nofun)).symm⟩
        · exact ⟨htr.trans (if_pos h0).symm, hpr.trans (if_pos h0).symm⟩
      obtain ⟨htr, hpr⟩ := hbefore
      refine ⟨fun hg => ?_, fun hg => ?_⟩
      · rw [hb, hg, Brush.motorStep_zero]
        exact ⟨rfl, htr, hpr⟩
      · obtain ⟨h1, h2, h3⟩ := (x.brush c).motorStep_pos (s.cfg.brush c) i.speed hg
        rw [← hb, htr, hpr] at h1
        rw [← hb] at h2 h3
        exact ⟨h1, h2, h3⟩
    · rcases hwork hw with ⟨h0, -⟩ | ⟨-, -, -, ⟨hs, hd⟩ | hce⟩
      · rw [hwas] at h0
        exact Bool.noConfusion h0
      · have hsweeps := hsw hs
        rw [hd] at hsweeps
        exact BrushState.noConfusion hsweeps
      · rw [hce, Brush.adjustCeiling_ceiling]
        cases hz : (s.brush c).ceiling with
        | none =>
          have hz' : ((s.brush c).tick i).ceiling = none := hz
          rw [hz']
          rfl
        | some z =>
          have hz' : ((s.brush c).tick i).ceiling = some z := hz
          rw [hz']
          rfl

end Sys2Proof.Machine

/-! The ration step (03): O30 and O31. -/

namespace Sys2Proof.Machine

/-! ### What a brush step makes of the ration unit -/

theorem State.brushStage3_state (s : State) (c d : Chan) : ((s.brushStage3 d).brush c).state = (s.brush c).state := by
  by_cases h : c = d
  · subst h
    by_cases hd : (s.brush c).state = .disabled
    · rw [(State.brushFrame_brushStage3 s c).disabled c hd |>.1]
    · obtain ⟨p, q, r, hk⟩ :=
        (s.brush c).stage3_keeps (s.cfg.brush c) (s.ration.share c).granted (s.capture.input (pickupOf c)).rate
      rw [State.brushStage3_of_enabled hd, State.setBrush_brush, State.stage3For, hk]
  · rw [(s.brushStage3_other h).1]

theorem State.setBrush_out_boost (s : State) (c : Chan) (b : Brush) : (s.setBrush c b).out.boost = s.out.boost := by
  cases c <;> rfl

theorem State.brushStage3_boost (s : State) (c : Chan) : (s.brushStage3 c).out.boost = s.out.boost := by
  unfold State.brushStage3
  dsimp only
  split_ifs
  · exact State.setBrush_out_boost _ _ _
  · rfl
  · exact State.setBrush_out_boost _ _ _

theorem State.brushStage1_boost (s : State) (c : Chan) : (s.brushStage1 c).out.boost = s.out.boost := by
  unfold State.brushStage1
  split
  · obtain ⟨x, b, he, -⟩ := s.editsBrush_applyBrush c (s.brushCause c)
    rw [(State.armContributions_keeps _ _).2.2.2.2.2.2.2.2.2.2.2.2.2.1, he, State.setBrush_out_boost, State.setCtl_out]
  · rfl

/-- What the rest of a brush step, after its stage 1 left `y`, makes of the ration unit, the boost request and the states. -/
structure State.Rationed (y t : State) : Prop where
  ration : t.ration = y.formRation
  states : ∀ c, (t.brush c).state = (y.brush c).state
  now : t.now = y.now
  cap : t.ctl.contrib.ration = if y.rationActive = true then some y.rationCapValue else none
  drive : t.drive =
    if y.drive.state.claims = true then y.drive.evalBoost y.cfg.drive y.now y.formBudget y.formTotal else y.drive
  boost : t.out.boost = if y.drive.state.claims = true then t.drive.boost else y.out.boost

theorem State.brushStep_rationed (s : State) (first : Chan) (l : LinkState) :
    (s.brushStage1Both first).Rationed ((s.brushStep first).finish l) := by
  have hy : s.brushStep first = (((s.brushStage1Both first).rationStep).brushStage3 .c0).brushStage3 .c1 := rfl
  have hr := s.brushStep_ration first
  generalize s.brushStage1Both first = y at *
  obtain ⟨rn, -, -, r0, r1, -⟩ := y.rationStep_keeps
  obtain ⟨n3, -, -, d3, -, -, -, -, -, c3, -⟩ := y.rationStep.brushStage3_keeps .c0
  obtain ⟨n4, -, -, d4, -, -, -, -, -, c4, -⟩ := (y.rationStep.brushStage3 .c0).brushStage3_keeps .c1
  have hb : (s.brushStep first).out.boost = y.rationStep.out.boost := by
    rw [hy, State.brushStage3_boost, State.brushStage3_boost]
  have hst (c : Chan) : ((s.brushStep first).brush c).state = (y.brush c).state := by
    rw [hy, State.brushStage3_state, State.brushStage3_state, State.brush_of_keeps r0 r1]
  rw [← hy] at n4 d4 c4
  generalize s.brushStep first = u at *
  have hstep : y.rationStep.ctl.contrib.ration = (if y.rationActive = true then some y.rationCapValue else none) ∧
      y.rationStep.drive =
        (if y.drive.state.claims = true then y.drive.evalBoost y.cfg.drive y.now y.formBudget y.formTotal else y.drive) ∧
      y.rationStep.out.boost = if y.drive.state.claims = true then y.rationStep.drive.boost else y.out.boost := by
    unfold State.rationStep
    dsimp only
    split
    · exact ⟨rfl, rfl, rfl⟩
    · exact ⟨rfl, rfl, rfl⟩
  obtain ⟨h1, h2, h3⟩ := hstep
  constructor
  case ration => rw [State.finish_ration, hr]
  case states =>
    intro c
    rw [State.finish_brush, hst]
  case now => rw [State.finish_now, n4, n3, rn]
  case cap =>
    rw [State.finish_ctl, State.settle_ctl_contrib]
    show u.ctl.contrib.ration = _
    rw [c4, c3, h1]
  case drive => rw [State.finish_drive, d4, d3, h2]
  case boost => rw [State.finish_out, State.settle_out_boost, hb, h3, State.finish_drive, d4, d3]

/-- Stage 1 leaves a channel DISABLED that was, and no other. -/
theorem State.brushStage1Both_enabled (s : State) (first c : Chan) :
    (s.brushStage1Both first).brushEnabled c = s.brushEnabled c := by
  unfold State.brushEnabled
  by_cases hd : (s.brush c).state = .disabled
  · have hf := (s.brushFrame_brushStage1 first).trans (State.brushFrame_brushStage1 _ (otherChan first))
    have hb : (s.brushStage1Both first).brush c = s.brush c := (hf.disabled c hd).1
    rw [hb]
  · have hx : (((s.brushTurn first c).applyBrush c (s.brushCause c)).brush c).state ≠ .disabled := by
      refine State.applyBrush_enabled ?_ _
      rw [(s.sameForBrush_turn first c).brush]
      exact hd
    rw [(s.stage1Both_done first hd).brush, bne_iff_ne.2 hx, bne_iff_ne.2 hd]

/-! ### The grants -/

theorem grantOf_le (budget total demand : Nat) : grantOf budget total demand ≤ demand := by
  unfold grantOf
  split
  · exact le_rfl
  · exact Nat.div_le_of_le_mul (by rw [Nat.mul_comm]; exact Nat.mul_le_mul_right _ (by omega))

/-- Two grants of demands within the total stay within the budget. -/
theorem grantOf_add_le {budget total d0 d1 : Nat} (h : d0 + d1 ≤ total) :
    grantOf budget total d0 + grantOf budget total d1 ≤ budget := by
  unfold grantOf
  split
  · omega
  · calc
      d0 * budget / total + d1 * budget / total ≤ (d0 * budget + d1 * budget) / total := Nat.div_add_div_le_add_div
      _ ≤ budget := by
        rw [← Nat.add_mul]
        exact Nat.div_le_of_le_mul (Nat.mul_le_mul_right _ h)

theorem grantOf_zero (budget total : Nat) : grantOf budget total 0 = 0 := Nat.le_zero.1 (grantOf_le _ _ _)

/-- A channel's share has its demand and that demand's grant, those of a DISABLED one being 0. -/
theorem State.formShare_demand (y : State) (c : Chan) :
    (y.formShare c).demand = y.channelDemand c ∧
      (y.formShare c).grant = grantOf y.formBudget y.formTotal (y.channelDemand c) := by
  unfold State.formShare
  split
  · exact ⟨rfl, rfl⟩
  · rename_i h
    have hd : (y.brush c).state = .disabled := by simpa [State.brushEnabled] using h
    have hz : y.channelDemand c = 0 := by
      unfold State.channelDemand
      rw [hd]
      rfl
    rw [hz, grantOf_zero]
    exact ⟨rfl, rfl⟩

/-! ### The schedule (R57) -/

theorem scheduleRpm_head : ∀ {l : List (Nat × Nat)} {p : Nat × Nat} {v : Nat}, (l.map Prod.fst).Pairwise (· < ·) →
    l.head? = some p → v ≤ p.1 → scheduleRpm l v = p.2
  | [(x, y)], p, v, _, hp, _ => by
    cases hp
    rfl
  | (x0, y0) :: (x1, y1) :: rest, p, v, hs, hp, hv => by
    cases hp
    have h01 : x0 < x1 := (List.pairwise_cons.1 hs).1 x1 (by simp)
    have hv' : v ≤ x0 := hv
    rw [scheduleRpm, if_pos (by omega)]
    by_cases h : v < x0
    · exact if_pos h
    · have he : v = x0 := by omega
      rw [if_neg h, he, Nat.sub_self, Nat.mul_zero, Nat.add_zero]
      exact Nat.mul_div_cancel _ (by omega)

theorem scheduleRpm_last : ∀ {l : List (Nat × Nat)} {p : Nat × Nat} {v : Nat}, (l.map Prod.fst).Pairwise (· < ·) →
    l.getLast? = some p → p.1 ≤ v → scheduleRpm l v = p.2
  | [(x, y)], p, v, _, hp, _ => by
    cases hp
    rfl
  | (x0, y0) :: (x1, y1) :: rest, p, v, hs, hp, hv => by
    have htail := (List.pairwise_cons.1 hs).2
    have hp' : ((x1, y1) :: rest).getLast? = some p := by rwa [List.getLast?_cons_cons] at hp
    have hx : x1 ≤ p.1 := by
      have hmem := List.mem_of_getLast? hp'
      rcases List.mem_cons.1 hmem with he | hr
      · rw [he]
      · exact Nat.le_of_lt ((List.pairwise_cons.1 htail).1 p.1 (List.mem_map_of_mem hr))
    rw [scheduleRpm, if_neg (by omega)]
    exact scheduleRpm_last htail hp' hv

theorem scheduleRpm_between : ∀ {l : List (Nat × Nat)} {k : Nat} {p q : Nat × Nat} {v : Nat},
    (l.map Prod.fst).Pairwise (· < ·) → l[k]? = some p → l[k + 1]? = some q → p.1 ≤ v → v < q.1 →
      scheduleRpm l v = (p.2 * (q.1 - v) + q.2 * (v - p.1)) / (q.1 - p.1)
  | [], _, _, _, _, _, hp, _, _, _ => by simp at hp
  | [_], _, _, _, _, _, _, hq, _, _ => by simp at hq
  | (x0, y0) :: (x1, y1) :: rest, 0, p, q, v, _, hp, hq, h1, h2 => by
    cases hp
    cases hq
    have h1' : x0 ≤ v := h1
    rw [scheduleRpm, if_pos h2, if_neg (by omega)]
  | (x0, y0) :: (x1, y1) :: rest, k + 1, p, q, v, hs, hp, hq, h1, h2 => by
    have htail := (List.pairwise_cons.1 hs).2
    rw [List.getElem?_cons_succ] at hp hq
    have hx : x1 ≤ p.1 := by
      rcases List.mem_cons.1 (List.mem_of_getElem? hp) with he | hr
      · rw [he]
      · exact Nat.le_of_lt ((List.pairwise_cons.1 htail).1 p.1 (List.mem_map_of_mem hr))
    rw [scheduleRpm, if_neg (by omega)]
    exact scheduleRpm_between htail hp hq h1 h2

/-- The schedule of a channel with a known or held pace. -/
theorem scheduled_points {y : State} {c : Chan} {v : Int} (hv : y.paceView = .known v ∨ y.paceView = .held v)
    (hs : ((y.cfg.brush c).points.map Prod.fst).Pairwise (· < ·)) :
    (∀ p, (y.cfg.brush c).points.head? = some p → v.natAbs ≤ p.1 → y.scheduled c = p.2) ∧
      (∀ p, (y.cfg.brush c).points.getLast? = some p → p.1 ≤ v.natAbs → y.scheduled c = p.2) ∧
      (∀ (k : Nat) (p q : Nat × Nat), (y.cfg.brush c).points[k]? = some p → (y.cfg.brush c).points[k + 1]? = some q →
        p.1 ≤ v.natAbs → v.natAbs < q.1 →
          y.scheduled c = (p.2 * (q.1 - v.natAbs) + q.2 * (v.natAbs - p.1)) / (q.1 - p.1)) := by
  have hn : y.scheduled c = scheduleRpm (y.cfg.brush c).points v.natAbs := by
    unfold State.scheduled
    rcases hv with h | h <;> rw [h] <;> rfl
  rw [hn]
  exact ⟨fun p hp hle => scheduleRpm_head hs hp hle, fun p hp hle => scheduleRpm_last hs hp hle,
    fun k p q hp hq h1 h2 => scheduleRpm_between hs hp hq h1 h2⟩

theorem BrushState.working_iff (x : BrushState) : x.working = true ↔ x = .descending ∨ x = .sweeping := by
  cases x <;> simp [BrushState.working]

theorem State.formEngineBudget_eq (y : State) :
    y.formEngineBudget =
      if y.drive.state = .yielded ∨ y.drive.state = .disabled then 0
      else min 2000 (y.capture.engine.rate * y.cfg.drive.va * y.cfg.drive.etaA / 100000) := by
  unfold State.formEngineBudget
  cases y.drive.state <;> simp [DriveState.claims]

/-- The share of an enabled channel, by its state. -/
theorem State.formShare_enabled {y : State} {c : Chan} (h : y.brushEnabled c = true) :
    (y.formShare c).n = y.scheduled c ∧
      (y.formShare c).demand =
        (if (y.brush c).state = .descending ∨ (y.brush c).state = .sweeping then
          flowDemand (y.cfg.brush c) (y.scheduled c) else 0) ∧
      (y.formShare c).granted = min (y.scheduled c) (flowSpeed (y.cfg.brush c) (y.formShare c).grant) ∧
      (y.formShare c).wouldBe =
        (if (y.brush c).state = .waiting then
          flowRatio y.formBudget (y.formTotal + flowDemand (y.cfg.brush c) (y.scheduled c)) else 0) := by
  unfold State.formShare
  rw [if_pos h]
  refine ⟨rfl, ?_, rfl, ?_⟩
  · show y.channelDemand c = _
    unfold State.channelDemand
    simp only [BrushState.working_iff]
  · dsimp only
    by_cases hw : (y.brush c).state = .waiting
    · rw [if_pos hw, if_pos hw, State.wouldBeDemand, if_pos hw]
    · rw [if_neg hw, if_neg hw]

theorem State.formShare_of_disabled {y : State} {c : Chan} (h : y.brushEnabled c = false) : y.formShare c = Share.zero := by
  unfold State.formShare
  rw [if_neg (by rw [h]; nofun)]

theorem State.formRation_share (y : State) (c : Chan) : y.formRation.share c = y.formShare c := by cases c <;> rfl

/-- What stage 1 leaves of the figures that the ration step reads. -/
theorem State.brushStage1Both_views (s : State) (first : Chan) :
    (s.brushStage1Both first).paceView = s.paceView ∧ (s.brushStage1Both first).budgetView = s.budgetView ∧
      (s.brushStage1Both first).peerDemands = s.peerDemands ∧ (s.brushStage1Both first).cfg = s.cfg ∧
      (s.brushStage1Both first).drive = s.drive ∧ (s.brushStage1Both first).capture = s.capture ∧
      (s.brushStage1Both first).ration = s.ration ∧ (s.brushStage1Both first).now = s.now := by
  obtain ⟨hn, -, hl, hd, hr, -, ho, hp, -, hc, -⟩ := s.brushStage1Both_keeps first
  obtain ⟨h1, h2, h3⟩ := State.views_of_same hd hp ho hc hl
  exact ⟨h1, h2, h3, by rw [State.cfg, State.cfg, hl], hd, hc, hr, hn⟩

/-- Settles O30: the figures are formed from the state that stage 1 leaves, of which the statement's operands are the same. -/
theorem grantsStayWithinDemandAndBudget : Obligations.GrantsStayWithinDemandAndBudget := by
  intro m first s ht hl hm
  have hruns : (s.arrive m).brushStepRuns = true := State.brushStepRuns_of hl hm
  refine ⟨_, exec_of_due ht hruns rfl, ?_⟩
  have hr := (s.arrive m).brushStep_rationed first s.link.state
  obtain ⟨hpace, hbudget, hdemands, hcfg, hdrive, hcap, -, -⟩ := (s.arrive m).brushStage1Both_views first
  have hen := (s.arrive m).brushStage1Both_enabled first
  generalize ((s.arrive m).brushStep first).finish s.link.state = t at *
  generalize (s.arrive m).brushStage1Both first = y at *
  obtain ⟨hrat, hst, -, -, -, -⟩ := hr
  obtain ⟨hd0, hg0⟩ := y.formShare_demand .c0
  obtain ⟨hd1, hg1⟩ := y.formShare_demand .c1
  have hpace' : y.paceView = s.paceView := hpace
  have hbudget' : y.budgetView = s.budgetView := hbudget
  have hdemands' : y.peerDemands = s.peerDemands := hdemands
  have hcfg' : y.cfg = s.cfg := hcfg
  have hown : y.ownDemand = (y.formShare .c0).demand + (y.formShare .c1).demand := by rw [hd0, hd1]; rfl
  rw [hrat]
  refine ⟨?_, ?_, ?_, ?_, ?_, ?_, ?_, fun c => ?_⟩
  · show (y.formShare .c0).grant ≤ (y.formShare .c0).demand
    rw [hd0, hg0]
    exact grantOf_le _ _ _
  · show (y.formShare .c1).grant ≤ (y.formShare .c1).demand
    rw [hd1, hg1]
    exact grantOf_le _ _ _
  · show (y.formShare .c0).grant + (y.formShare .c1).grant ≤ y.formBudget
    rw [hg0, hg1]
    exact grantOf_add_le (Nat.le_add_left _ _)
  · show y.formEngineBudget = _
    rw [State.formEngineBudget_eq, hdrive, hcap, hcfg']
    rfl
  · show y.formBudget = _
    rw [State.formBudget, hbudget']
    show (s.budgetView y.formEngineBudget).value = (match s.budgetView y.formEngineBudget with
      | .known b => b
      | .held b => b
      | .fallback b => b)
    cases s.budgetView y.formEngineBudget <;> rfl
  · show y.formTotal = s.peerDemands + ((y.formShare .c0).demand + (y.formShare .c1).demand)
    rw [State.formTotal, hdemands', hown]
  · show min 2000 y.ownDemand = min 2000 ((y.formShare .c0).demand + (y.formShare .c1).demand)
    rw [hown]
  · intro i x flow
    have hx : x = y.formShare c := y.formRation_share c
    have hbr : (s.arrive m).brush c = s.brush c := State.brush_of_keeps rfl rfl c
    have henc : y.brushEnabled c = ((s.brush c).state != .disabled) := by rw [hen, State.brushEnabled, hbr]
    refine ⟨fun hdis => ?_, fun hne => ?_⟩
    · rw [hx, State.formShare_of_disabled (by rw [henc, hdis]; rfl)]
      rfl
    · obtain ⟨h1, h2, h3, h4⟩ := State.formShare_enabled (y := y) (c := c) (by rw [henc]; exact bne_iff_ne.2 hne)
      obtain ⟨-, hg⟩ := y.formShare_demand c
      have hflow : flowDemand (y.cfg.brush c) (y.scheduled c) = flow := by rw [← h1, ← hx, hcfg']; rfl
      rw [hflow, ← hst, ← hx] at h2
      rw [hflow, ← hst, ← hx] at h4
      rw [← (y.formShare_demand c).1, ← hx] at hg
      rw [← h1, ← hx, hcfg'] at h3
      refine ⟨fun hu => ?_, fun v hv hs => ?_, h2, hg, h3, h4⟩
      · rw [hx, h1]
        unfold State.scheduled
        rw [hpace', hu, hcfg']
        rfl
      · have hpts := scheduled_points (y := y) (c := c) (v := v) (by rw [hpace']; exact hv) (by rw [hcfg']; exact hs)
        rw [← h1, ← hx, hcfg'] at hpts
        exact hpts

/-! ### The ratio, its cap and the boost request -/

theorem ranFor_iff {x : Timer} {now d : Micros} : ranFor x now d = true ↔ ∃ b, x = some b ∧ b + d ≤ now := by
  cases x with
  | none => exact ⟨fun h => Bool.noConfusion h, fun ⟨_, h, _⟩ => nomatch h⟩
  | some b =>
    refine (decide_eq_true_iff (p := b + d ≤ now)).trans ⟨fun h => ⟨b, rfl, h⟩, ?_⟩
    rintro ⟨b', hb, h⟩
    cases hb
    exact h

/-- The timing of a condition at a step, with the condition as a proposition. -/
theorem runWhile_eq {c : Bool} {p : Prop} [Decidable p] (h : c = true ↔ p) (x : Timer) (now : Micros) :
    runWhile c x now = if p then some (x.getD now) else none := by
  unfold runWhile
  by_cases hp : p
  · rw [if_pos (h.2 hp), if_pos hp]
  · rw [if_neg (mt h.1 hp), if_neg hp]

/-- The cap's onset, while it is inactive on a station with a brush. -/
theorem State.rationActive_of_inactive {y : State} (ha : y.anyBrush = true) (hc : y.ration.capActive = false) :
    y.rationActive = ranFor y.rationOnset y.now (ms 1000) ∧
      (y.rationOnset = if y.formRatio < 800 then some (y.ration.onsetTimer.getD y.now) else none) ∧
      (y.rationActive = true ↔ y.formRatio < 800 ∧ ∃ b, y.ration.onsetTimer = some b ∧ b + 1000000 ≤ y.now) := by
  have hact : y.rationActive = ranFor y.rationOnset y.now (ms 1000) := by
    unfold State.rationActive
    rw [ha, hc]
    rfl
  refine ⟨hact, ?_, ?_⟩
  · unfold State.rationOnset
    exact runWhile_eq (by rw [ha, hc]; exact decide_eq_true_iff) _ _
  · rw [hact]
    unfold State.rationOnset
    rw [ranFor_runWhile_iff (by decide), ha, hc]
    exact and_congr_left' decide_eq_true_iff

/-- The cap's release, while it is active. -/
theorem State.rationActive_of_active {y : State} (ha : y.anyBrush = true) (hc : y.ration.capActive = true) :
    y.rationActive = !ranFor y.rationRelease y.now (ms 2000) ∧
      (y.rationRelease = if 900 ≤ y.formRatio then some (y.ration.releaseTimer.getD y.now) else none) ∧
      (y.rationActive = false ↔ 900 ≤ y.formRatio ∧ ∃ b, y.ration.releaseTimer = some b ∧ b + 2000000 ≤ y.now) := by
  have hnone : y.rationOnset = none := by
    unfold State.rationOnset
    rw [hc, Bool.not_true, Bool.and_false, Bool.false_and]
    rfl
  have hact : y.rationActive = !ranFor y.rationRelease y.now (ms 2000) := by
    unfold State.rationActive
    rw [ha, hc, hnone, ranFor_none, Bool.true_and, Bool.true_and, Bool.or_false]
  refine ⟨hact, ?_, ?_⟩
  · unfold State.rationRelease
    exact runWhile_eq (by rw [ha, hc]; exact decide_eq_true_iff) _ _
  · rw [hact, Bool.not_eq_false']
    unfold State.rationRelease
    rw [ranFor_runWhile_iff (by decide), ha, hc]
    exact and_congr_left' decide_eq_true_iff

theorem State.rationActive_of_no_brush {y : State} (ha : y.anyBrush = false) : y.rationActive = false := by
  unfold State.rationActive
  rw [ha, Bool.false_and]

theorem Drive.evalBoost_of_released {d : Drive} (h : d.boost = false) (i : DriveCfg) (now budget total : Nat) :
    (budget * i.boostThreshold / 1000 < total →
      (d.evalBoost i now budget total).boost = true ∧ (d.evalBoost i now budget total).boostTimer = some now) ∧
      (total ≤ budget * i.boostThreshold / 1000 → d.evalBoost i now budget total = d) := by
  unfold Drive.evalBoost
  rw [h, if_neg Bool.false_ne_true]
  refine ⟨fun ht => ?_, fun ht => if_neg (Nat.not_lt.2 ht)⟩
  rw [if_pos ht]
  exact ⟨rfl, rfl⟩

theorem Drive.evalBoost_of_asserted {d : Drive} (h : d.boost = true) (i : DriveCfg) (now budget total : Nat) :
    ((d.evalBoost i now budget total).boost = false ↔
      total ≤ budget * (i.boostThreshold - 50) / 1000 ∧
        ∃ b, d.boostTimer = some b ∧ b + i.boostHold * 1000 ≤ now) ∧
      ((d.evalBoost i now budget total).boost = true → d.evalBoost i now budget total = d) := by
  unfold Drive.evalBoost
  rw [if_pos h]
  by_cases hc : total ≤ budget * (i.boostThreshold - 50) / 1000 ∧ ranFor d.boostTimer now (ms i.boostHold) = true
  · rw [if_pos hc]
    exact ⟨⟨fun _ => hc.imp_right ranFor_iff.1, fun _ => rfl⟩, fun hb => Bool.noConfusion hb⟩
  · rw [if_neg hc]
    refine ⟨⟨fun hb => ?_, fun hh => absurd (hh.imp_right ranFor_iff.2) hc⟩, fun _ => rfl⟩
    rw [h] at hb
    exact Bool.noConfusion hb

theorem DriveState.not_claims_iff (x : DriveState) : x.claims = false ↔ x = .yielded ∨ x = .disabled := by
  cases x <;> simp [DriveState.claims]

/-- Settles O31: the ratio and its timings are those of the state that stage 1 leaves. -/
theorem ratioAndRationCap : Obligations.RatioAndRationCap := by
  refine ⟨?_, ?_, ?_⟩
  · intro m first s ht hl hm
    have hruns : (s.arrive m).brushStepRuns = true := State.brushStepRuns_of hl hm
    refine ⟨_, exec_of_due ht hruns rfl, ?_⟩
    have hr := (s.arrive m).brushStep_rationed first s.link.state
    obtain ⟨-, -, -, hcfg, hdrive, -, hration, hnow⟩ := (s.arrive m).brushStage1Both_views first
    have hboost : ((s.arrive m).brushStage1Both first).out.boost = s.out.boost := by
      unfold State.brushStage1Both
      rw [State.brushStage1_boost, State.brushStage1_boost, State.arrive_out]
    generalize ((s.arrive m).brushStep first).finish s.link.state = t at *
    generalize (s.arrive m).brushStage1Both first = y at *
    obtain ⟨hrat, hst, htn, hcap, htd, htb⟩ := hr
    have hcfg' : y.cfg = s.cfg := hcfg
    have hdrive' : y.drive = s.drive := hdrive
    have hration' : y.ration = s.ration := hration
    have hany : t.anyBrush = y.anyBrush := by
      unfold State.anyBrush State.brushEnabled
      rw [hst, hst]
    have hin := State.rationActive_of_inactive (y := y)
    have hac := State.rationActive_of_active (y := y)
    rw [hration', ← htn] at hin hac
    rw [hany, hrat, htb, hboost, hcap]
    rw [hdrive', hcfg', ← htn] at htd
    rw [hdrive']
    refine ⟨rfl, ?_, ?_, State.rationActive_of_no_brush, fun ha hc => ?_, fun ha hc => ?_, fun hy => ?_, fun h1 h2 => ?_⟩
    · show (y.anyBrush && decide (y.formRatio < 1000)) = decide (y.formRatio < 1000)
      cases ha : y.anyBrush
      · rw [State.formRatio, ha]
        rfl
      · rfl
    · rw [State.rationCapValue, hcfg']
      rfl
    · obtain ⟨-, h2, h3⟩ := hin ha hc
      refine ⟨h3, fun hf => ?_⟩
      have hf' : y.rationActive = false := hf
      show (if y.rationActive = true then none else y.rationOnset) = _
      rw [hf', if_neg Bool.false_ne_true]
      exact h2
    · obtain ⟨-, h2, h3⟩ := hac ha hc
      refine ⟨h3, fun hf => ?_⟩
      have hf' : y.rationActive = true := hf
      show (if (y.ration.capActive && y.rationActive) = true then y.rationRelease else none) = _
      rw [hf', hration', hc]
      exact h2
    · have hn := (DriveState.not_claims_iff _).2 hy
      rw [hn, if_neg Bool.false_ne_true] at htd ⊢
      exact ⟨htd, rfl⟩
    · have hn : s.drive.state.claims = true := (DriveState.claims_eq _).2 ⟨h1, h2⟩
      rw [hn, if_pos rfl] at htd ⊢
      rw [htd]
      exact ⟨rfl, fun hb => Drive.evalBoost_of_released hb _ _ _ _, fun hb => Drive.evalBoost_of_asserted hb _ _ _ _⟩
  · intro m first s b a ht hl hm hany hc hlow hb hle
    obtain ⟨-, -, -, hcfg, -, -, hration, hnow⟩ := (s.arrive m).brushStage1Both_views first
    have hena := (s.arrive m).brushStage1Both_enabled first
    have haa : a.anyBrush = true := by
      rw [State.anyBrush, hena, hena]
      exact hany
    have hac : a.ration.capActive = false := (congrArg Ration.capActive hration).trans hc
    have hon := (State.rationActive_of_inactive haa hac).2.2.2 ⟨hlow, b, (congrArg Ration.onsetTimer hration).trans hb, by
      rw [hnow]; exact hle⟩
    have hmet : (s.arrive m).capOnsetMet first = true := by
      have hruns : (s.arrive m).brushStepRuns = true := State.brushStepRuns_of hl hm
      show ((s.arrive m).brushStepRuns && !a.ration.capActive && a.rationActive) = true
      rw [hruns, hac, hon]
      rfl
    refine ⟨_, exec_of_due ht (due := fun x => x.capOnsetMet first) hmet rfl, ?_⟩
    obtain ⟨hrat, -, -, hcap, -, -⟩ := (s.arrive m).brushStep_rationed first s.link.state
    have ha : (s.arrive m).brushStage1Both first = a := rfl
    rw [ha] at hrat hcap hcfg
    rw [hrat, hcap, if_pos hon, State.rationCapValue, hcfg]
    refine ⟨hon, ?_, rfl⟩
    show (if (a.ration.capActive && a.rationActive) = true then a.rationRelease else none) = none
    rw [hac]
    rfl
  · intro m first s b a ht hl hm hany hc hhigh hb hle
    obtain ⟨-, -, -, -, -, -, hration, hnow⟩ := (s.arrive m).brushStage1Both_views first
    have hena := (s.arrive m).brushStage1Both_enabled first
    have haa : a.anyBrush = true := by
      rw [State.anyBrush, hena, hena]
      exact hany
    have hac : a.ration.capActive = true := (congrArg Ration.capActive hration).trans hc
    obtain ⟨hact, -, hoff⟩ := State.rationActive_of_active haa hac
    have hoff := hoff.2 ⟨hhigh, b, (congrArg Ration.releaseTimer hration).trans hb, by rw [hnow]; exact hle⟩
    have hran : ranFor a.rationRelease a.now (ms 2000) = true := by
      rw [hoff] at hact
      exact (Bool.not_eq_false' _).mp hact.symm
    have hmet : (s.arrive m).capReleaseMet first = true := by
      have hruns : (s.arrive m).brushStepRuns = true := State.brushStepRuns_of hl hm
      show ((s.arrive m).brushStepRuns && ranFor a.rationRelease a.now (ms 2000)) = true
      rw [hruns, hran]
      rfl
    refine ⟨_, exec_of_due ht (due := fun x => x.capReleaseMet first) hmet rfl, ?_⟩
    obtain ⟨hrat, -, -, hcap, -, -⟩ := (s.arrive m).brushStep_rationed first s.link.state
    have ha : (s.arrive m).brushStage1Both first = a := rfl
    rw [ha] at hrat hcap
    rw [hrat, hcap, hoff]
    refine ⟨hoff, ?_, rfl⟩
    show (if a.rationActive = true then none else a.rationOnset) = none
    rw [hoff, if_neg Bool.false_ne_true]
    unfold State.rationOnset
    rw [hac, Bool.not_true, Bool.and_false, Bool.false_and]
    rfl

end Sys2Proof.Machine

/-! The spray rows (04): O33 to O35. -/

namespace Sys2Proof.Machine

/-! ### Stages 3 and 4 of the spray step (R73 to R76) -/

/-- The channel after stages 3 and 4, for a flow target and a measured flow. -/
def Spray.poured (x : Spray) (i : SprayCfg) (q flow : Nat) : Spray :=
  { x.pumpStep i q flow with opened := (x.pumpStep i q flow).openSet }

/-- The stages write the figures of the pump and the open set alone. -/
theorem Spray.poured_keeps (x : Spray) (i : SprayCfg) (q flow : Nat) :
    ∃ a b c d, x.poured i q flow =
      { x with target := q, trim := a, prevDuty := b, lastDuty := c, opened := d } := by
  unfold Spray.poured Spray.pumpStep
  dsimp only
  split
  · rename_i hq
    subst hq
    exact ⟨_, _, _, _, rfl⟩
  · exact ⟨_, _, _, _, rfl⟩

theorem Spray.poured_opened (x : Spray) (i : SprayCfg) (q flow : Nat) :
    (x.poured i q flow).opened = if x.state = .priming ∨ x.state = .spraying then x.wanted else [] := by
  unfold Spray.poured Spray.pumpStep
  dsimp only
  split <;> rfl

theorem Spray.poured_trim (x : Spray) (i : SprayCfg) (q flow : Nat) :
    (x.poured i q flow).trim = if x.state = .spraying then x.trimmed q flow else x.trim := by
  unfold Spray.poured Spray.pumpStep
  dsimp only
  split <;> rfl

theorem Spray.poured_zero (x : Spray) (i : SprayCfg) (flow : Nat) :
    (x.poured i 0 flow).lastDuty = 0 ∧ (x.poured i 0 flow).prevDuty = x.prevDuty := ⟨rfl, rfl⟩

theorem Spray.poured_pos (x : Spray) (i : SprayCfg) {q : Nat} (flow : Nat) (hq : 0 < q) :
    (x.poured i q flow).prevDuty =
        ((i.pumpOffset + q * i.pumpGain / 10000 : Nat) : Int) + (x.poured i q flow).trim.tdiv 100 ∧
      (x.poured i q flow).lastDuty = (max 0 (min 1000 (x.poured i q flow).prevDuty)).toNat := by
  unfold Spray.poured Spray.pumpStep
  rw [if_neg (Nat.ne_of_gt hq)]
  exact ⟨rfl, rfl⟩

theorem Spray.poured_le (x : Spray) (i : SprayCfg) (q flow : Nat) : (x.poured i q flow).lastDuty ≤ 1000 := by
  by_cases hq : 0 < q
  · rw [(x.poured_pos i flow hq).2]
    omega
  · rw [Nat.eq_zero_of_not_pos hq, (x.poured_zero i flow).1]
    exact Nat.zero_le _

/-- A channel that neither primes nor sprays, its pump already at 0 and its groups closed. -/
theorem Spray.poured_of_shut {x : Spray} (hp : x.state ≠ .priming) (hs : x.state ≠ .spraying) (ht : x.target = 0)
    (hd : x.lastDuty = 0) (ho : x.opened = []) (i : SprayCfg) (flow : Nat) : x.poured i 0 flow = x := by
  have hop : (x.poured i 0 flow).opened = [] := (x.poured_opened i 0 flow).trans (if_neg (by simp [hp, hs]))
  have htr : (x.poured i 0 flow).trim = x.trim := (x.poured_trim i 0 flow).trans (if_neg hs)
  obtain ⟨hl, hpr⟩ := x.poured_zero i flow
  obtain ⟨a, b, c, d, he⟩ := x.poured_keeps i 0 flow
  rw [he] at hop htr hl hpr
  dsimp only at hop htr hl hpr
  rw [he, hop, htr, hl, hpr]
  cases x
  cases ht
  cases hd
  cases ho
  rfl

theorem flowTarget_idle (i : SprayCfg) {x : SprayState} (hp : x ≠ .priming) (hs : x ≠ .spraying) (rate : Nat) (wanted : List Nat)
    (pace : PaceView) : flowTarget i x rate wanted pace = 0 := by
  cases x
  case priming => exact absurd rfl hp
  case spraying => exact absurd rfl hs
  all_goals rfl

/-! ### The whole step -/

/-- What a spray step makes of a channel whose stages 1 and 2 left `w`. -/
structure State.SprayStepped (s w t : State) : Prop where
  spray : t.spray = w.spray.poured s.cfg.spray
    (flowTarget s.cfg.spray w.spray.state s.ctl.sprayRate w.spray.wanted s.paceView) s.capture.flow.rate
  nozzles : t.out.nozzle1 = decide (1 ∈ t.spray.opened) ∧ t.out.nozzle2 = decide (2 ∈ t.spray.opened) ∧
    t.out.nozzle3 = decide (3 ∈ t.spray.opened) ∧ t.out.nozzle4 = decide (4 ∈ t.spray.opened)
  pump : t.out.pump.shadow = t.spray.lastDuty
  now : t.now = s.now
  count : t.ctl.sprayCount = w.ctl.sprayCount
  record : t.ctl.record .spray = w.ctl.record .spray
  dust : t.ctl.contrib.dust =
    if (t.spray.state = .empty ∨ t.spray.state = .latched) ∧ s.cfg.spray.drySweep = 0 then some s.cfg.spray.dustCap else none

theorem State.setSpray_nozzles (s : State) (x : Spray) (l : LinkState) :
    (((s.setSpray x).finish l).out.nozzle1 = decide (1 ∈ x.opened) ∧ ((s.setSpray x).finish l).out.nozzle2 = decide (2 ∈ x.opened) ∧
      ((s.setSpray x).finish l).out.nozzle3 = decide (3 ∈ x.opened) ∧
      ((s.setSpray x).finish l).out.nozzle4 = decide (4 ∈ x.opened)) ∧
      ((s.setSpray x).finish l).out.pump.shadow = x.lastDuty := by
  rw [State.finish_out, State.settle_out_pump_shadow]
  refine ⟨⟨?_, ?_, ?_, ?_⟩, rfl⟩ <;> exact List.contains_eq_mem _ _

theorem State.sprayStep_stepped (s : State) (l : LinkState) :
    s.SprayStepped (s.applySpray s.sprayCause) (s.sprayStep.finish l) := by
  obtain ⟨x, y, hw, ⟨⟨v, r, hx⟩, -⟩⟩ := s.editsSpray_applySpray s.sprayCause
  have hrate : (s.applySpray s.sprayCause).ctl.sprayRate = s.ctl.sprayRate := by
    rw [hw, hx]
    rfl
  have hpace : (s.applySpray s.sprayCause).paceView = s.paceView := by
    rw [hw]
    exact (State.views_of_same rfl rfl rfl rfl rfl).1
  have hcfg : (s.applySpray s.sprayCause).cfg = s.cfg := by rw [hw]; rfl
  have hcap : (s.applySpray s.sprayCause).capture = s.capture := by rw [hw]; rfl
  have hnow : (s.applySpray s.sprayCause).now = s.now := by rw [hw]; rfl
  have hstep : s.sprayStep = (s.applySpray s.sprayCause).sprayOutputs := rfl
  generalize s.applySpray s.sprayCause = w at *
  have hset : s.sprayStep = w.setSpray (w.spray.poured s.cfg.spray
      (flowTarget s.cfg.spray w.spray.state s.ctl.sprayRate w.spray.wanted s.paceView) s.capture.flow.rate) := by
    rw [hstep, State.sprayOutputs, hrate, hpace, hcfg, hcap]
    rfl
  generalize hzeq : w.spray.poured s.cfg.spray (flowTarget s.cfg.spray w.spray.state s.ctl.sprayRate w.spray.wanted s.paceView)
    s.capture.flow.rate = z at *
  obtain ⟨hn, hp⟩ := w.setSpray_nozzles z l
  rw [hset]
  have hz : ((w.setSpray z).finish l).spray = z := State.finish_spray ..
  rw [← hz] at hn hp
  constructor
  case spray => exact hz.trans hzeq.symm
  case nozzles => rw [hz] at hn ⊢; exact hn
  case pump => rw [hz] at hp ⊢; exact hp
  case now => rw [State.finish_now]; exact hnow
  case count => rw [State.finish_ctl, State.settle_ctl_sprayCount]; rfl
  case record => rw [State.finish_ctl, State.settle_ctl_record]; rfl
  case dust =>
    rw [State.finish_ctl, State.settle_ctl_contrib, hz, ← hcfg]
    show (if (w.setSpray z).dustStands = true then some w.cfg.spray.dustCap else none) = _
    refine if_congr ?_ rfl rfl
    show ((z.state == .empty || z.state == .latched) && w.cfg.spray.drySweep == 0) = true ↔ _
    simp only [Bool.and_eq_true, Bool.or_eq_true, beq_iff_eq]

/-! ### Stage 2 (R77 to R86) -/

/-- The figures that the pump's stages read of a channel after stage 2. -/
structure Spray.Figures (x y : Spray) : Prop where
  wanted : y.wanted = x.wanted
  pours : y.state = .priming ∨ y.state = .spraying → y.trim = x.trim ∧ y.prevDuty = x.prevDuty
  paused : y.state = .paused → y.trim = x.trim

theorem Spray.Figures.of_shut {x y : Spray} (hw : y.wanted = x.wanted) (h1 : y.state ≠ .priming) (h2 : y.state ≠ .spraying)
    (h3 : y.state ≠ .paused) : x.Figures y :=
  ⟨hw, fun h => h.elim (absurd · h1) (absurd · h2), fun h => absurd h h3⟩

theorem Spray.Figures.of_same {x y : Spray} (hw : y.wanted = x.wanted) (ht : y.trim = x.trim) (hp : y.prevDuty = x.prevDuty) :
    x.Figures y := ⟨hw, fun _ => ⟨ht, hp⟩, fun _ => ht⟩

/-- Whatever a step meets, the channel that primes, sprays or pauses after it has kept its trim. -/
theorem State.applySpray_figures (s : State) (cause : SprayCause) :
    (s.sprayInputs.tick s.sprayIn).Figures (s.applySpray cause).spray := by
  have hpaused (x : Spray) : x.Figures x.toPaused := ⟨rfl, fun h => h.elim nofun nofun, fun _ => rfl⟩
  have hoff (x : Spray) : x.Figures x.toOff := .of_shut rfl nofun nofun nofun
  have hfault (x : Spray) (code : FaultCode) : x.Figures (s.sprayFault x code).spray := by
    rw [State.sprayFault_eq, State.setSpray_spray]
    cases (s.ctl.post s.now .spray code).2 <;> exact .of_shut rfl nofun nofun nofun
  unfold State.applySpray
  dsimp only
  generalize s.sprayInputs.tick s.sprayIn = x
  cases cause <;> dsimp only
  case none => split <;> exact .of_same rfl rfl rfl
  case released => exact .of_shut rfl nofun nofun nofun
  case unwanted =>
    rw [State.setSpray_spray]
    split
    · exact hoff x
    · exact hpaused x
  case sensor | dryRun => exact hfault x _
  case tankLowEmpty => exact .of_shut rfl nofun nofun nofun
  case prime | primeEndSpraying | resume => exact .of_same rfl rfl rfl
  case primeEndPaused | paceUnknown | standstill => exact hpaused x
  case refilled | modeExit => exact .of_shut rfl nofun nofun nofun
  case recoveryEnd => split <;> exact .of_shut rfl nofun nofun nofun

/-! ### The wanted groups (R72) -/

theorem State.referenceSweeps_iff (s : State) (g : GroupCfg) :
    s.referenceSweeps g = true ↔
      g.kind = 0 ∨
        (g.kind = 1 ∧ (g.channel = 0 → s.brush0.state = .sweeping) ∧ (g.channel ≠ 0 → s.brush1.state = .sweeping)) ∨
        (2 ≤ g.kind ∧ ∃ r, s.peerBrush g.station g.channel = some r ∧ r.state = 2) := by
  unfold State.referenceSweeps
  generalize g.kind = k
  match k with
  | 0 => simp
  | 1 =>
    by_cases h : g.channel = 0
    · simp [h]
    · simp [h]
  | k + 2 =>
    have hcode : BrushState.sweeping.code = 2 := rfl
    simp [Option.any_eq_true, hcode]

theorem State.mem_wantedGroups (s : State) (n : Nat) :
    n ∈ s.wantedGroups ↔
      1 ≤ n ∧ ∃ g, s.cfg.spray.groups[n - 1]? = some g ∧ g.enabled = 1 ∧ s.referenceSweeps g = true := by
  unfold State.wantedGroups
  simp only [List.mem_map, List.mem_filter, List.mem_range, Bool.and_eq_true, beq_iff_eq]
  constructor
  · rintro ⟨k, ⟨hk, he, hr⟩, rfl⟩
    have hget : s.cfg.spray.groups.getD k GroupCfg.blank = s.cfg.spray.groups[k] := List.getD_eq_getElem _ _ hk
    rw [hget] at he hr
    exact ⟨Nat.le_add_left 1 k, _, List.getElem?_eq_getElem hk, he, hr⟩
  · rintro ⟨h1, g, hg, he, hr⟩
    obtain ⟨hk, hgk⟩ := List.getElem?_eq_some_iff.1 hg
    have hget : s.cfg.spray.groups.getD (n - 1) GroupCfg.blank = g := (List.getD_eq_getElem _ _ hk).trans hgk
    refine ⟨n - 1, ⟨hk, ?_, ?_⟩, Nat.sub_add_cancel h1⟩
    · rw [hget]; exact he
    · rw [hget]; exact hr

theorem State.wantedGroups_pairwise (s : State) : s.wantedGroups.Pairwise (· < ·) := by
  unfold State.wantedGroups
  refine List.Pairwise.map _ (fun a b h => Nat.add_lt_add_right h 1) ?_
  exact List.Pairwise.filter _ List.pairwise_lt_range

/-! ### What a spray step meets -/

theorem Spray.tick_not_low {x : Spray} (h : x.tankLowTimer = none) (i : SprayIn) : (x.tick i).lowMet i = false := by
  show ranFor (runWhile _ x.tankLowTimer i.now) i.now _ = false
  rw [h]
  exact ranFor_runWhile_none _ _ (by decide)

theorem Spray.tick_not_dry {x : Spray} (h : x.dryRunTimer = none) (i : SprayIn) :
    ranFor (x.tick i).dryRunTimer i.now (ms 3000) = false := by
  show ranFor (runWhile _ x.dryRunTimer i.now) i.now _ = false
  rw [h]
  exact ranFor_runWhile_none _ _ (by decide)

theorem State.sprayInputs_tankLow {s : State} (h : s.tankOut = false) :
    s.sprayInputs.tankLow = decide (s.conv.tank.value * 100 / 4096 < s.cfg.spray.tankLow) ∧
      s.sprayInputs.level = s.conv.tank.value * 100 / 4096 := by
  unfold State.sprayInputs
  rw [h]
  exact ⟨rfl, rfl⟩

theorem State.sprayInputs_wanted {s : State} (h : s.wantedGroups ≠ []) : s.sprayInputs.wanted.isEmpty = false :=
  List.isEmpty_eq_false_iff.2 h

theorem State.sprayCalled_of {s : State} (hm : s.ctl.mode = .sweep) (hon : s.ctl.sprayOn = true) : s.sprayCalled = true := by
  rw [State.sprayCalled, hm, hon]
  rfl

theorem State.sprayCause_of_off {s : State} (h : s.spray.state = .off) :
    s.sprayCause = (s.sprayInputs.tick s.sprayIn).offCause s.sprayIn := by
  have hs : (s.sprayInputs.tick s.sprayIn).state = .off := h
  unfold State.sprayCause Spray.cause
  simp only [hs]

theorem State.sprayCause_of_priming {s : State} (h : s.spray.state = .priming) :
    s.sprayCause = (s.sprayInputs.tick s.sprayIn).primingCause s.sprayIn := by
  have hs : (s.sprayInputs.tick s.sprayIn).state = .priming := h
  unfold State.sprayCause Spray.cause
  simp only [hs]

theorem State.sprayCause_of_spraying {s : State} (h : s.spray.state = .spraying) :
    s.sprayCause = (s.sprayInputs.tick s.sprayIn).sprayingCause s.sprayIn := by
  have hs : (s.sprayInputs.tick s.sprayIn).state = .spraying := h
  unfold State.sprayCause Spray.cause
  simp only [hs]

/-- A channel that is called at rest with water, wanted groups and a moving machine primes. -/
theorem State.sprayCause_prime {s : State} (hst : s.spray.state = .off) (hc : s.sprayCalled = true) (ho : s.tankOut = false)
    (ht : s.spray.tankLowTimer = none) (hl : s.cfg.spray.tankLow ≤ s.conv.tank.value * 100 / 4096) (hw : s.wantedGroups ≠ [])
    (hp : ∃ v, s.paceView.magnitude = some v ∧ 50 ≤ v) : s.sprayCause = .prime := by
  have hlow : (s.sprayInputs.tick s.sprayIn).tankLow = false :=
    (State.sprayInputs_tankLow ho).1.trans (decide_eq_false (Nat.not_lt.2 hl))
  have hwant : (s.sprayInputs.tick s.sprayIn).wanted.isEmpty = false := State.sprayInputs_wanted hw
  have hcalled : s.sprayIn.called = true := hc
  have hout : s.sprayIn.out = false := ho
  have hmove : s.sprayIn.moving = true := by
    obtain ⟨v, hv, h50⟩ := hp
    show s.paceView.magnitude.any _ = true
    rw [hv]
    exact decide_eq_true h50
  rw [State.sprayCause_of_off hst]
  unfold Spray.offCause
  simp only [hcalled, hout, Spray.tick_not_low (x := s.sprayInputs) ht, hlow, hwant, hmove, Bool.not_true, Bool.not_false,
    Bool.false_eq_true, if_false, if_true, Bool.and_self]

theorem State.sprayStepRuns_of {s : State} (hd : s.spray.state ≠ .disabled) (hm : s.ctl.mode ≠ .standby) :
    s.sprayStepRuns = true := by
  simp [State.sprayStepRuns, hd, hm]

/-- Settles O33: the figures by stages 3 and 4, on what stage 2 has left. -/
theorem sprayStepWritesPumpAndNozzles : Obligations.SprayStepWritesPumpAndNozzles := by
  intro m s ht hd hm
  have hruns : (s.arrive m).sprayStepRuns = true := State.sprayStepRuns_of hd hm
  refine ⟨_, exec_of_due ht hruns rfl, ?_⟩
  have hstep := (s.arrive m).sprayStep_stepped s.link.state
  have hfig := (s.arrive m).applySpray_figures (s.arrive m).sprayCause
  have hprime : (s.arrive m).sprayCause = .prime →
      ((s.arrive m).applySpray (s.arrive m).sprayCause).spray.state = .priming ∧
        ((s.arrive m).applySpray (s.arrive m).sprayCause).spray.primeTimer = some (s.arrive m).now := by
    intro h
    rw [h]
    exact ⟨rfl, rfl⟩
  generalize (s.arrive m).applySpray (s.arrive m).sprayCause = w at *
  generalize ((s.arrive m).sprayStep).finish s.link.state = t at *
  obtain ⟨hspray, ⟨hn1, hn2, hn3, hn4⟩, hpump, hnow, -, -, -⟩ := hstep
  obtain ⟨hwant, hpours, hpause⟩ := hfig
  have hwant' : w.spray.wanted = s.wantedGroups := hwant
  have hpace : (s.arrive m).paceView = s.paceView := rfl
  have hcfg : (s.arrive m).cfg = s.cfg := rfl
  rw [hpace, hcfg] at hspray
  generalize hq : flowTarget s.cfg.spray w.spray.state (s.arrive m).ctl.sprayRate w.spray.wanted s.paceView = q at hspray
  obtain ⟨a, b, c, d, hkept⟩ := w.spray.poured_keeps s.cfg.spray q (s.arrive m).capture.flow.rate
  have hall := hspray.trans hkept
  have hstate : t.spray.state = w.spray.state := by rw [hall]
  have htwant : t.spray.wanted = s.wantedGroups := by rw [hall]; exact hwant'
  have htarget : t.spray.target = q := by rw [hall]
  have hopened := w.spray.poured_opened s.cfg.spray q (s.arrive m).capture.flow.rate
  have htrim := w.spray.poured_trim s.cfg.spray q (s.arrive m).capture.flow.rate
  have hle := w.spray.poured_le s.cfg.spray q (s.arrive m).capture.flow.rate
  rw [← hspray, ← hstate, hwant'] at hopened
  rw [← hspray, ← hstate] at htrim
  rw [← hspray] at hle
  rw [← hstate] at hpours hpause hq
  rw [hwant'] at hq
  refine ⟨hn1, hn2, hn3, hn4, hpump, hle, htwant, ?_, fun n => ?_, fun hst => ?_, fun hst => ?_, fun hst => ?_, fun h1 h2 => ?_,
    fun hst => ?_, fun hst => ?_, fun hoff hcall hout htimer hlev hwan hpac => ?_⟩
  · rw [htwant]
    exact s.wantedGroups_pairwise
  · rw [htwant, s.mem_wantedGroups]
    simp only [s.referenceSweeps_iff]
  · intro q' e
    have hq' : q' = q := htarget
    obtain ⟨hptrim, hpprev⟩ := hpours hst
    have hptrim' : w.spray.trim = s.spray.trim := hptrim
    have hpprev' : w.spray.prevDuty = s.spray.prevDuty := hpprev
    refine ⟨?_, fun h0 => ?_, fun hpos => ?_⟩
    · rw [htrim]
      rcases hst with hp | hsp
      · rw [if_neg (by rw [hp]; nofun), if_pos (Or.inl hp), hptrim']
      · have hnp : t.spray.state ≠ .priming := by rw [hsp]; nofun
        rw [if_pos hsp, Spray.trimmed, hptrim', hpprev', ← hq']
        refine if_congr ?_ rfl rfl
        exact (or_iff_right hnp).symm
    · rw [hq'] at h0
      obtain ⟨hl, hpr⟩ := w.spray.poured_zero s.cfg.spray (s.arrive m).capture.flow.rate
      rw [hspray, h0, hl, hpr]
      exact ⟨rfl, hpprev'⟩
    · obtain ⟨hpr, hl⟩ := w.spray.poured_pos s.cfg.spray (s.arrive m).capture.flow.rate (hq' ▸ hpos)
      rw [← hspray, ← hq'] at hpr
      rw [← hspray] at hl
      exact ⟨hpr, hl⟩
  · rw [htrim, if_neg (by rw [hst]; nofun)]
    exact hpause hst
  · rw [hopened, if_pos hst, htwant]
  · have hz : q = 0 := hq.symm.trans (flowTarget_idle _ h1 h2 _ _ _)
    refine ⟨hopened.trans (if_neg (by simp [h1, h2])), htarget.trans hz, ?_⟩
    rw [hspray, hz]
    exact (w.spray.poured_zero _ _).1
  · rw [htarget, ← hq, hst]
    rfl
  · rw [htarget, ← hq, hst, htwant]
    rfl
  · obtain ⟨h1, h2⟩ := hprime (State.sprayCause_prime (s := s.arrive m) hoff hcall hout htimer hlev hwan hpac)
    rw [hstate, hnow, hall]
    exact ⟨h1, h2⟩

/-! ### The rows of the timings -/

/-- A spray row whose condition is met is the whole spray step. -/
theorem exec_sprayMeets {i : Instr} {s : State} {m : Moment} {p : SprayCause → Bool} (ht : s.takeable = false)
    (hm : s.ctl.mode ≠ .standby) (hd : s.spray.state ≠ .disabled) (hx : p (s.arrive m).sprayCause = true)
    (he : exec i s = .next (s.event m (fun a => a.sprayMeets p) State.sprayStep)) :
    exec i s = .next ((s.arrive m).sprayStep.finish s.link.state) := by
  refine exec_of_due ht ?_ he
  have hruns : (s.arrive m).sprayStepRuns = true := State.sprayStepRuns_of hd hm
  show (s.arrive m).sprayMeets p = true
  rw [State.sprayMeets, hruns, hx]
  rfl

theorem exec_sprayRow_stepped {i : Instr} {s : State} {m : Moment} {x : SprayCause} {p : SprayCause → Bool}
    (ht : s.takeable = false) (hm : s.ctl.mode ≠ .standby) (hd : s.spray.state ≠ .disabled) (hx : (s.arrive m).sprayCause = x)
    (hp : p x = true) (he : exec i s = .next (s.event m (fun a => a.sprayMeets p) State.sprayStep)) :
    ∃ t, exec i s = .next t ∧ (s.arrive m).SprayStepped ((s.arrive m).applySpray x) t := by
  refine ⟨_, exec_sprayMeets ht hm hd (by rw [hx]; exact hp) he, ?_⟩
  have h := (s.arrive m).sprayStep_stepped s.link.state
  rwa [hx] at h

/-- Stages 3 and 4 leave everything of a channel but the pump's figures and the open set. -/
theorem State.SprayStepped.kept {s w t : State} (h : s.SprayStepped w t) :
    ∃ q a b c d, t.spray = { w.spray with target := q, trim := a, prevDuty := b, lastDuty := c, opened := d } := by
  obtain ⟨a, b, c, d, hk⟩ := w.spray.poured_keeps s.cfg.spray
    (flowTarget s.cfg.spray w.spray.state s.ctl.sprayRate w.spray.wanted s.paceView) s.capture.flow.rate
  exact ⟨_, a, b, c, d, h.spray.trans hk⟩

/-- A channel that neither primes nor sprays after the step: pump at 0, groups closed, T kept. -/
theorem State.SprayStepped.idle {s w t : State} (h : s.SprayStepped w t) (hp : w.spray.state ≠ .priming)
    (hs : w.spray.state ≠ .spraying) :
    t.spray.state = w.spray.state ∧ t.spray.opened = [] ∧ t.out.pump.shadow = 0 ∧ t.spray.trim = w.spray.trim := by
  obtain ⟨q, a, b, c, d, hk⟩ := h.kept
  have hspray := h.spray
  rw [flowTarget_idle _ hp hs] at hspray
  refine ⟨by rw [hk], ?_, ?_, ?_⟩
  · rw [hspray, Spray.poured_opened, if_neg (by simp [hp, hs])]
  · rw [h.pump, hspray]
    exact (w.spray.poured_zero _ _).1
  · rw [hspray, Spray.poured_trim, if_neg hs]

/-- Settles O34: the two ends by the conditions of PRIMING and SPRAYING that come before them. -/
theorem primingAndStandstillHoldEnd : Obligations.PrimingAndStandstillHoldEnd := by
  constructor
  · intro m s b ht hm hon hst hw ho hlow hb hle
    have hcalled : (s.arrive m).sprayIn.called = true := State.sprayCalled_of (s := s.arrive m) hm hon
    have hwant : ((s.arrive m).sprayInputs.tick (s.arrive m).sprayIn).wanted.isEmpty = false :=
      State.sprayInputs_wanted (s := s.arrive m) hw
    have hout : (s.arrive m).sprayIn.out = false := ho
    have hran : ranFor ((s.arrive m).sprayInputs.tick (s.arrive m).sprayIn).primeTimer (s.arrive m).sprayIn.now
        (ms (s.arrive m).sprayIn.cfg.primeTime) = true := ranFor_of_le hb hle
    have hcause : (s.arrive m).sprayCause =
        if (s.arrive m).sprayIn.pace.magnitude.isNone = true then .primeEndPaused else .primeEndSpraying := by
      rw [State.sprayCause_of_priming (s := s.arrive m) hst]
      unfold Spray.primingCause
      simp only [hcalled, hwant, hout, Spray.tick_not_low (x := (s.arrive m).sprayInputs) hlow, hran, Bool.not_true,
        Bool.false_eq_true, if_false, if_true]
    have hpace : (s.arrive m).sprayIn.pace.magnitude = s.paceView.magnitude := rfl
    rw [hpace] at hcause
    cases hmag : s.paceView.magnitude with
    | none =>
      rw [hmag, Option.isNone_none, if_pos rfl] at hcause
      obtain ⟨t, he, hstep⟩ := exec_sprayRow_stepped (i := .primeTimeEnd m) ht (by rw [hm]; nofun) (by rw [hst]; nofun) hcause
        rfl rfl
      exact ⟨t, he, (hstep.idle nofun nofun).1⟩
    | some v =>
      rw [hmag, Option.isNone_some, if_neg Bool.false_ne_true] at hcause
      obtain ⟨t, he, hstep⟩ := exec_sprayRow_stepped (i := .primeTimeEnd m) ht (by rw [hm]; nofun) (by rw [hst]; nofun) hcause
        rfl rfl
      obtain ⟨q, a, b, c, d, hk⟩ := hstep.kept
      refine ⟨t, he, ?_⟩
      rw [hk, if_neg nofun]
      rfl
  · intro m s b v ht hm hon hst hw ho hlow hdry hmag hv hb hle
    have hcalled : (s.arrive m).sprayIn.called = true := State.sprayCalled_of (s := s.arrive m) hm hon
    have hwant : ((s.arrive m).sprayInputs.tick (s.arrive m).sprayIn).wanted.isEmpty = false :=
      State.sprayInputs_wanted (s := s.arrive m) hw
    have hout : (s.arrive m).sprayIn.out = false := ho
    have hpace : (s.arrive m).sprayIn.pace.magnitude = some v := hmag
    have hslow : (s.arrive m).sprayIn.slow = true := by
      unfold SprayIn.slow
      rw [hpace]
      exact decide_eq_true hv
    have hndry := Spray.tick_not_dry (x := (s.arrive m).sprayInputs) hdry (s.arrive m).sprayIn
    have hran : ranFor ((s.arrive m).sprayInputs.tick (s.arrive m).sprayIn).standstillTimer (s.arrive m).sprayIn.now
        (ms (s.arrive m).sprayIn.cfg.standstillHold) = true := by
      refine ranFor_runWhile ?_ hb hle
      rw [hslow]
      show (s.spray.state == .spraying && true) = true
      rw [hst]
      rfl
    have hcause : (s.arrive m).sprayCause = .standstill := by
      rw [State.sprayCause_of_spraying (s := s.arrive m) hst]
      unfold Spray.sprayingCause
      simp only [hcalled, hwant, hout, hndry, hpace, Spray.tick_not_low (x := (s.arrive m).sprayInputs) hlow, hran, Bool.not_true,
        Option.isNone_some, Bool.false_eq_true, if_false, if_true]
    obtain ⟨t, he, hstep⟩ := exec_sprayRow_stepped (i := .standstillHoldEnd m) ht (by rw [hm]; nofun) (by rw [hst]; nofun) hcause
      rfl rfl
    obtain ⟨h1, h2, h3, h4⟩ := hstep.idle nofun nofun
    exact ⟨t, he, h1, h4, h2, h3⟩

/-- Settles O35: the four ends, each the first condition met in its state. -/
theorem tankAndDryRunTimingsEnd : Obligations.TankAndDryRunTimingsEnd := by
  refine ⟨?_, ?_, ?_, ?_⟩
  · intro m s b ht hm hon hst ho hdry hlev hb hle
    have hcalled : (s.arrive m).sprayIn.called = true := State.sprayCalled_of (s := s.arrive m) hm hon
    have hout : (s.arrive m).sprayIn.out = false := ho
    have hndry := Spray.tick_not_dry (x := (s.arrive m).sprayInputs) hdry (s.arrive m).sprayIn
    have hlow : ((s.arrive m).sprayInputs.tick (s.arrive m).sprayIn).lowMet (s.arrive m).sprayIn = true := by
      have htank : (s.arrive m).sprayInputs.tankLow = true :=
        (State.sprayInputs_tankLow (s := s.arrive m) ho).1.trans (decide_eq_true hlev)
      refine ranFor_runWhile ?_ hb hle
      rw [htank, hout]
      show (((s.spray.state == .off && _) || s.spray.state.working) && !false && true) = true
      rw [hst]
      rfl
    have hcause : (s.arrive m).sprayCause = .tankLowEmpty := by
      rw [State.sprayCause_of_spraying (s := s.arrive m) hst]
      unfold Spray.sprayingCause
      simp only [hcalled, hout, hndry, hlow, Bool.not_true, Bool.false_eq_true, if_false, if_true]
    obtain ⟨t, he, hstep⟩ := exec_sprayRow_stepped (i := .tankLowEmpty m) ht (by rw [hm]; nofun) (by rw [hst]; nofun) hcause rfl rfl
    obtain ⟨h1, h2, h3, -⟩ := hstep.idle nofun nofun
    have h1' : t.spray.state = .empty := h1
    refine ⟨t, he, h1', h2, h3, fun hdrysweep => ?_⟩
    exact hstep.dust.trans (if_pos ⟨Or.inl h1', hdrysweep⟩)
  · intro m s b ht hm hst ho hlev hb hle
    have hran : ranFor ((s.arrive m).sprayInputs.tick (s.arrive m).sprayIn).refillTimer (s.arrive m).sprayIn.now (ms 5000) = true := by
      have hlevel := (State.sprayInputs_tankLow (s := s.arrive m) ho).2
      have hout : (s.arrive m).sprayIn.out = false := ho
      refine ranFor_runWhile ?_ hb hle
      rw [hlevel, hout, decide_eq_true (p := (s.arrive m).sprayIn.cfg.tankLow + 5 ≤ (s.arrive m).conv.tank.value * 100 / 4096) hlev]
      show (s.spray.state == .empty && !false && true) = true
      rw [hst]
      rfl
    have hcause : (s.arrive m).sprayCause = .refilled := by
      have hs : ((s.arrive m).sprayInputs.tick (s.arrive m).sprayIn).state = .empty := hst
      unfold State.sprayCause Spray.cause
      simp only [hs]
      exact if_pos hran
    obtain ⟨t, he, hstep⟩ := exec_sprayRow_stepped (i := .refill m) ht hm (by rw [hst]; nofun) hcause rfl rfl
    obtain ⟨h1, -⟩ := hstep.idle nofun nofun
    have h1' : t.spray.state = .off := h1
    refine ⟨t, he, h1', hstep.dust.trans (if_neg ?_)⟩
    rw [h1']
    rintro ⟨h | h, -⟩ <;> exact SprayState.noConfusion h
  · intro m s b ht hm hon hst ho hflow hduty hb hle hrec
    have hcalled : (s.arrive m).sprayIn.called = true := State.sprayCalled_of (s := s.arrive m) hm hon
    have hout : (s.arrive m).sprayIn.out = false := ho
    have hran : ranFor ((s.arrive m).sprayInputs.tick (s.arrive m).sprayIn).dryRunTimer (s.arrive m).sprayIn.now (ms 3000) = true := by
      refine ranFor_runWhile ?_ hb hle
      show (s.spray.state == .spraying && decide (s.capture.flow.rate * 4 < s.spray.target) &&
        decide (200 ≤ s.spray.lastDuty)) = true
      rw [hst, decide_eq_true hflow, decide_eq_true hduty]
      rfl
    have hcause : (s.arrive m).sprayCause = .dryRun := by
      rw [State.sprayCause_of_spraying (s := s.arrive m) hst]
      unfold Spray.sprayingCause
      simp only [hcalled, hout, hran, Bool.not_true, Bool.false_eq_true, if_false, if_true]
    obtain ⟨t, he, hstep⟩ := exec_sprayRow_stepped (i := .dryRun m) ht (by rw [hm]; nofun) (by rw [hst]; nofun) hcause rfl rfl
    have hf := State.sprayFault_faulted (s := s.arrive m) (Or.inl hrec) ((s.arrive m).sprayInputs.tick (s.arrive m).sprayIn) .dryRun
    have hw : (s.arrive m).applySpray .dryRun =
        (s.arrive m).sprayFault ((s.arrive m).sprayInputs.tick (s.arrive m).sprayIn) .dryRun := rfl
    rw [hw] at hstep
    have hshut : ((s.arrive m).sprayFault ((s.arrive m).sprayInputs.tick (s.arrive m).sprayIn) .dryRun).spray.state ≠ .priming ∧
        ((s.arrive m).sprayFault ((s.arrive m).sprayInputs.tick (s.arrive m).sprayIn) .dryRun).spray.state ≠ .spraying := by
      rw [State.sprayFault_eq, State.setSpray_spray]
      cases ((s.arrive m).ctl.post (s.arrive m).now .spray .dryRun).2 <;> exact ⟨nofun, nofun⟩
    obtain ⟨-, h2, h3, -⟩ := hstep.idle hshut.1 hshut.2
    have hsame : t.spray = ((s.arrive m).sprayFault ((s.arrive m).sprayInputs.tick (s.arrive m).sprayIn) .dryRun).spray := by
      have hspray := hstep.spray
      rw [flowTarget_idle _ hshut.1 hshut.2, Spray.poured_of_shut hshut.1 hshut.2 rfl rfl rfl] at hspray
      exact hspray
    obtain ⟨k1, -, -, -, k5, k6⟩ := hf.congr hsame h3 hstep.count hstep.record hstep.now
    refine ⟨t, he, k1, h2, h3, fun hn => ?_, fun hn => ?_⟩
    · obtain ⟨j1, j2, j3, j4⟩ := k5 hn
      exact ⟨j1, j2, j3, by rw [Controller.recordState, j4]; rfl⟩
    · obtain ⟨j1, -, j3⟩ := k6 hn
      exact ⟨j1, by rw [Controller.recordState, j3]; rfl⟩
  · intro m s b ht hm hst hb hle hrec
    have hran : ranFor ((s.arrive m).sprayInputs.tick (s.arrive m).sprayIn).recoveryTimer (s.arrive m).sprayIn.now (ms 10000) = true :=
      ranFor_of_le hb hle
    have hcause : (s.arrive m).sprayCause = .recoveryEnd := by
      have hs : ((s.arrive m).sprayInputs.tick (s.arrive m).sprayIn).state = .fault := hst
      unfold State.sprayCause Spray.cause
      simp only [hs]
      exact if_pos hran
    obtain ⟨t, he, hstep⟩ := exec_sprayRow_stepped (i := .sprayRecoveryDelayEnd m) ht hm (by rw [hst]; nofun) hcause rfl rfl
    have hmade := Controller.recordState_makeRecovering (x := (s.arrive m).ctl) hrec
    have hfigures : ((s.arrive m).applySpray .recoveryEnd).spray.state = (if s.supplyLow = true then .held else .off) ∧
        ((s.arrive m).applySpray .recoveryEnd).spray.code = s.spray.code ∧
        ((s.arrive m).applySpray .recoveryEnd).ctl = (s.arrive m).ctl.makeRecovering .spray := by
      unfold State.applySpray
      dsimp only
      have hsup : (s.arrive m).supplyLow = s.supplyLow := rfl
      rw [hsup]
      cases s.supplyLow <;> exact ⟨rfl, rfl, rfl⟩
    obtain ⟨f1, f2, f3⟩ := hfigures
    obtain ⟨q, a, b', c, d, hk⟩ := hstep.kept
    refine ⟨t, he, ?_, ?_, ?_⟩
    · rw [Controller.recordState, hstep.record, f3]
      exact hmade
    · rw [hk]
      exact f2
    · rw [hk]
      exact f1

end Sys2Proof.Machine
